-- ==== Sys2Proof/Word.lean ====
section
/-!
DEFINITION. The words of the AC48: the byte of the host link, and the numbers of its points, field lines, classes,
groups, shelf slots and windows (00_scope.md, sections D and E).
-/

namespace Sys2Proof

/-- A byte of the host link. -/
abbrev Byte := BitVec 8

/-- A point number, P0 to P47. -/
abbrev PointNo := Fin 48

/-- A field line number, FI0 to FI31. -/
abbrev LineNo := Fin 32

/-- A class number, C0 to C3; a lower number is a higher priority. -/
abbrev ClassNo := Fin 4

/-- A group number, G0 to G7. -/
abbrev GroupNo := Fin 8

/-- A shelf slot number, S0 to S7. -/
abbrev SlotNo := Fin 8

/-- A window number, W0 to W47. -/
abbrev WindowNo := Fin 48

end Sys2Proof
end

