-- ==== Sys2Proof/Syntax.lean ====
section
/-!
DEFINITION. The commands the AC48 takes: one constructor for each row of spec/opcode_table.json. A host command
carries its raw parameter bytes in the order they are sent (10_host_link_and_command_set.md, sections D and E).
-/

namespace Sys2Proof

/-- A command of the block: one whole, indivisible step (95_what_each_step_holds.md). -/
inductive Instr where
  /-- HARD_RESET: RESETn goes low and returns high; `csLow` is whether CSn is low when it returns high (R169). -/
  | hardReset (csLow : Bool)
  /-- TICK: a tick begins (R152). -/
  | tick
  /-- SAMPLE: the levels of FI0 to FI31 (bit k is FIk) and of ACKn, SILn, RSTn, TSTn (bits 0 to 3); 1 is high (R20). -/
  | sample (lines : BitVec 32) (buttons : BitVec 4)
  /-- FRAME_START (R138). -/
  | frameStart
  /-- SECOND_TICK (R154, R109). -/
  | secondTick
  /-- WINDOW_BOUNDARY: a chatter window closes (R28). -/
  | windowBoundary
  /-- SHELF_EXPIRY: the slot whose remaining seconds reach 0 expires (R110). -/
  | shelfExpiry
  /-- CHIME_TIMER_EXPIRY: the chime timer reaches 0 (R126). -/
  | chimeTimerExpiry
  /-- HOST_TEST_TIMER_EXPIRY: the host test timer reaches 0 (R147). -/
  | hostTestTimerExpiry
  /-- FLASH_PHASE_ADVANCE (R153). -/
  | flashPhaseAdvance
  /-- SWAP: a pending swap is carried out (R135). -/
  | swap
  /-- BRIGHTNESS_INTO_FORCE (R144). -/
  | brightnessIntoForce
  /-- SHORT_TRANSACTION: CSn rises with only `bytes` complete and no command taken (R164). -/
  | shortTransaction (bytes : List Byte)
  /-- UNKNOWN_COMMAND: the command byte `code` names no command (R170). -/
  | unknownCommand (code : Byte)
  /-- DEFINE_POINT (R8, R9). -/
  | definePoint (point source options debounce : Byte)
  /-- PLACE_IN_SERVICE (R10 to R13). -/
  | placeInService (point : Byte)
  /-- REMOVE_FROM_SERVICE (R14, R15). -/
  | removeFromService (point : Byte)
  /-- SET_CLASS (R17, R18). -/
  | setClass (point cls : Byte)
  /-- READ_POINT (R19). -/
  | readPoint (point : Byte)
  /-- SET_CONDITION (R52, R53). -/
  | setCondition (point condition : Byte)
  /-- READ_LINES (R35). -/
  | readLines
  /-- ACKNOWLEDGE (R47, R50). -/
  | acknowledge (scope : Byte)
  /-- SILENCE (R48). -/
  | silence
  /-- RESET_POINTS (R47, R51). -/
  | resetPoints (scope : Byte)
  /-- SET_CLASS_OPTIONS (R124). -/
  | setClassOptions (cls options : Byte)
  /-- SET_GROUP_OPTIONS (R75). -/
  | setGroupOptions (group options : Byte)
  /-- READ_GROUP (R78). -/
  | readGroup (group : Byte)
  /-- SET_CHATTER_LIMIT (R25). -/
  | setChatterLimit (limit : Byte)
  /-- LIST_TOP (R90). -/
  | listTop
  /-- LIST_SEEK (R91). -/
  | listSeek (point : Byte)
  /-- READ_ENTRY (R92, R93). -/
  | readEntry
  /-- LIST_MARK (R95). -/
  | listMark
  /-- LIST_RETURN (R97, R98). -/
  | listReturn
  /-- READ_LIST_SUMMARY (R100). -/
  | readListSummary
  /-- SHELVE: the minutes are two bytes, most significant first (R105, R106). -/
  | shelve (point minutesHigh minutesLow : Byte)
  /-- UNSHELVE (R111). -/
  | unshelve (point : Byte)
  /-- READ_SHELF_SLOT (R115). -/
  | readShelfSlot (slot : Byte)
  /-- WRITE_WINDOW (R132). -/
  | writeWindow (window entry : Byte)
  /-- READ_WINDOW (R133). -/
  | readWindow (bank window : Byte)
  /-- SWAP_BANKS (R135). -/
  | swapBanks
  /-- COPY_LIVE_TO_STAGING (R134). -/
  | copyLiveToStaging
  /-- SET_BRIGHTNESS (R144). -/
  | setBrightness (brightness : Byte)
  /-- SET_PANEL (R145). -/
  | setPanel (enable : Byte)
  /-- LAMP_TEST (R147). -/
  | lampTest (value : Byte)
  /-- READ_PANEL (R149). -/
  | readPanel
  /-- READ_CAUSES (R158). -/
  | readCauses
  /-- CLEAR_CAUSES (R158). -/
  | clearCauses (mask : Byte)
  /-- SET_CAUSE_ENABLES (R159). -/
  | setCauseEnables (enables : Byte)
  /-- SET_BUTTON_LOCK (R121). -/
  | setButtonLock (mask : Byte)
  /-- READ_BUTTONS (R123). -/
  | readButtons
  /-- READ_UPTIME (R155). -/
  | readUptime
  /-- SOFT_RESET (R171, R66). -/
  | softReset
  /-- TRANSACTION_BEGIN: the falling edge of CSn (R162). -/
  | transactionBegin
  /-- TRANSACTION_END: a rise of CSn (R165). -/
  | transactionEnd
  deriving DecidableEq, Repr

end Sys2Proof
end

