-- ==== Sys2Proof/Decode.lean ====
section
/-!
DEFINITION. The host link's command codes (10_host_link_and_command_set.md, E.1), the bytes of a host command's
transaction and the reading of them, and the host's `decodeTableWord`. spec/opcode_table.json gives no row any bits, so
no word of the table spells a command; what the host sends on MOSI does, and is read here (R163).
-/

namespace Sys2Proof

/-- The command codes of E.1 with the parameter counts of the catalogue (section D, R163). -/
def commandCatalogue : List (Byte × Nat) :=
  [(0x01#8, 4), (0x02#8, 1), (0x03#8, 1), (0x04#8, 2), (0x05#8, 1), (0x06#8, 2), (0x07#8, 0),
   (0x10#8, 1), (0x11#8, 0), (0x12#8, 1),
   (0x18#8, 2), (0x19#8, 2), (0x1A#8, 1), (0x1B#8, 1),
   (0x20#8, 0), (0x21#8, 1), (0x22#8, 0), (0x23#8, 0), (0x24#8, 0), (0x25#8, 0),
   (0x30#8, 3), (0x31#8, 1), (0x32#8, 1),
   (0x40#8, 2), (0x41#8, 2), (0x42#8, 0), (0x43#8, 0), (0x44#8, 1), (0x45#8, 1), (0x46#8, 1), (0x47#8, 0),
   (0x50#8, 0), (0x51#8, 1), (0x52#8, 1), (0x53#8, 1), (0x54#8, 0), (0x55#8, 0), (0x5F#8, 0)]

/-- How many parameter bytes the command named by `code` carries; none when the code names no command (R163, R170). -/
def paramCount (code : Byte) : Option Nat :=
  (commandCatalogue.find? fun row => row.1 == code).map (·.2)

/-- The bytes the host sends up to the taking of a command: the command byte (E.1), then its parameters in order
(section D). None for a row that is not a transaction whose command is taken. -/
def Instr.mosiBytes : Instr → Option (List Byte)
  | .definePoint p s o d => some [0x01#8, p, s, o, d]
  | .placeInService p => some [0x02#8, p]
  | .removeFromService p => some [0x03#8, p]
  | .setClass p c => some [0x04#8, p, c]
  | .readPoint p => some [0x05#8, p]
  | .setCondition p c => some [0x06#8, p, c]
  | .readLines => some [0x07#8]
  | .acknowledge sc => some [0x10#8, sc]
  | .silence => some [0x11#8]
  | .resetPoints sc => some [0x12#8, sc]
  | .setClassOptions c o => some [0x18#8, c, o]
  | .setGroupOptions g o => some [0x19#8, g, o]
  | .readGroup g => some [0x1A#8, g]
  | .setChatterLimit l => some [0x1B#8, l]
  | .listTop => some [0x20#8]
  | .listSeek p => some [0x21#8, p]
  | .readEntry => some [0x22#8]
  | .listMark => some [0x23#8]
  | .listReturn => some [0x24#8]
  | .readListSummary => some [0x25#8]
  | .shelve p mh ml => some [0x30#8, p, mh, ml]
  | .unshelve p => some [0x31#8, p]
  | .readShelfSlot k => some [0x32#8, k]
  | .writeWindow w e => some [0x40#8, w, e]
  | .readWindow b w => some [0x41#8, b, w]
  | .swapBanks => some [0x42#8]
  | .copyLiveToStaging => some [0x43#8]
  | .setBrightness b => some [0x44#8, b]
  | .setPanel e => some [0x45#8, e]
  | .lampTest v => some [0x46#8, v]
  | .readPanel => some [0x47#8]
  | .readCauses => some [0x50#8]
  | .clearCauses m => some [0x51#8, m]
  | .setCauseEnables e => some [0x52#8, e]
  | .setButtonLock m => some [0x53#8, m]
  | .readButtons => some [0x54#8]
  | .readUptime => some [0x55#8]
  | .softReset => some [0x5F#8]
  | .unknownCommand c => some [c]
  | .hardReset _ => none
  | .tick => none
  | .sample _ _ => none
  | .frameStart => none
  | .secondTick => none
  | .windowBoundary => none
  | .shelfExpiry => none
  | .chimeTimerExpiry => none
  | .hostTestTimerExpiry => none
  | .flashPhaseAdvance => none
  | .swap => none
  | .brightnessIntoForce => none
  | .shortTransaction _ => none
  | .transactionBegin => none
  | .transactionEnd => none

/-- The command that a command byte and its parameter bytes name (E.1, section D). None when the parameter count is not
the catalogue's, or the byte names no command. -/
def catalogueCommand (code : Byte) (params : List Byte) : Option Instr :=
  match code.toNat, params with
  | 0x01, [p, s, o, d] => some (.definePoint p s o d)
  | 0x02, [p] => some (.placeInService p)
  | 0x03, [p] => some (.removeFromService p)
  | 0x04, [p, c] => some (.setClass p c)
  | 0x05, [p] => some (.readPoint p)
  | 0x06, [p, c] => some (.setCondition p c)
  | 0x07, [] => some .readLines
  | 0x10, [sc] => some (.acknowledge sc)
  | 0x11, [] => some .silence
  | 0x12, [sc] => some (.resetPoints sc)
  | 0x18, [c, o] => some (.setClassOptions c o)
  | 0x19, [g, o] => some (.setGroupOptions g o)
  | 0x1A, [g] => some (.readGroup g)
  | 0x1B, [l] => some (.setChatterLimit l)
  | 0x20, [] => some .listTop
  | 0x21, [p] => some (.listSeek p)
  | 0x22, [] => some .readEntry
  | 0x23, [] => some .listMark
  | 0x24, [] => some .listReturn
  | 0x25, [] => some .readListSummary
  | 0x30, [p, mh, ml] => some (.shelve p mh ml)
  | 0x31, [p] => some (.unshelve p)
  | 0x32, [k] => some (.readShelfSlot k)
  | 0x40, [w, e] => some (.writeWindow w e)
  | 0x41, [b, w] => some (.readWindow b w)
  | 0x42, [] => some .swapBanks
  | 0x43, [] => some .copyLiveToStaging
  | 0x44, [b] => some (.setBrightness b)
  | 0x45, [e] => some (.setPanel e)
  | 0x46, [v] => some (.lampTest v)
  | 0x47, [] => some .readPanel
  | 0x50, [] => some .readCauses
  | 0x51, [m] => some (.clearCauses m)
  | 0x52, [e] => some (.setCauseEnables e)
  | 0x53, [m] => some (.setButtonLock m)
  | 0x54, [] => some .readButtons
  | 0x55, [] => some .readUptime
  | 0x5F, [] => some .softReset
  | _, _ => none

/-- What a whole transaction of the bytes `mosi` is to the AC48: short while its command is not taken (R164), the
command taken at its last parameter byte (R163), or an unknown command (R170). Bytes after the taking are ignored
(R165). -/
def transactionCommand (mosi : List Byte) : Instr :=
  match mosi with
  | [] => .shortTransaction []
  | code :: rest =>
    match paramCount code with
    | none => .unknownCommand code
    | some n =>
      if rest.length < n then .shortTransaction mosi
      else (catalogueCommand code (rest.take n)).getD (.unknownCommand code)

/-- The command spelled by a word of spec/opcode_table.json: none, since no row of the table gives bits
(DEDUCED, log entry 18). -/
def decodeTableWord (_nbits _w : Nat) : Option Instr := none

end Sys2Proof
end

