-- ==== Sys2Proof/Machine/State.lean ====
section
/-!
DEFINITION. The state of the AC48, unit by unit (00_scope.md, section A), as plain data, its values at hard reset, and
the reasons a step can stop.
-/

namespace Sys2Proof.Machine

/-- A condition of a point (R2). -/
inductive Condition where
  | normal
  | offNormal
  deriving DecidableEq, Repr

/-- Where a point's condition comes from (R1, R2). -/
inductive Source where
  | line (k : LineNo)
  | host
  deriving DecidableEq, Repr

/-- How a line level is read as a condition (R2). -/
inductive Polarity where
  | whenClosed
  | whenOpen
  deriving DecidableEq, Repr

/-- Which sequence table a point follows (R42, R43, R44). -/
inductive SeqType where
  | latching
  | selfClearing
  | status
  deriving DecidableEq, Repr

/-- A point's state (R37). -/
inductive AnnState where
  | quiet
  | alarmNew
  | alarmAcked
  | clearedNew
  | ringback
  deriving DecidableEq, Repr

/-- The six configuration fields of a point record (R1, R8). -/
structure PointConfig where
  source : Source
  polarity : Polarity
  debounce : Nat
  seqType : SeqType
  cls : ClassNo
  group : GroupNo
  deriving DecidableEq, Repr

/-- A point record (R1), with the run count of the point's debouncer (R21). -/
structure PointRec extends PointConfig where
  inService : Bool
  line : Condition
  eff : Condition
  state : AnnState
  shelf : Option SlotNo
  sounding : Bool
  chatterCount : Nat
  lockout : Bool
  repeatCount : Nat
  entryTime : Option Nat
  lastChange : Option Nat
  run : Nat
  deriving DecidableEq, Repr

/-- The debouncer and the press count of a pushbutton (R117, R119). -/
structure ButtonRec where
  pressed : Bool
  run : Nat
  presses : BitVec 8
  deriving DecidableEq, Repr

/-- The cursor mark (R95). -/
inductive Mark where
  | none
  | entry (p : PointNo)
  | atEnd
  | lost
  deriving DecidableEq, Repr

/-- A group's first-out state; HELD carries the first-out point, which is present exactly then (R68, R70). -/
inductive FirstOut where
  | off
  | armed
  | held (p : PointNo)
  | spent
  deriving DecidableEq, Repr

/-- A group record (R68). -/
structure GroupRec where
  option : Bool
  firstOut : FirstOut
  deriving DecidableEq, Repr

/-- What a used shelf slot holds (R103). -/
structure SlotRec where
  point : PointNo
  remaining : Nat
  deriving DecidableEq, Repr

/-- A window entry (R131). -/
inductive WindowEntry where
  | unbound
  | point (p : PointNo)
  | group (g : GroupNo)
  deriving DecidableEq, Repr

/-- The letter of a bank (R131). -/
inductive Bank where
  | a
  | b
  deriving DecidableEq, Repr

/-- The two elements of a window, lit or dark in a frame (R130, R139). -/
structure Elements where
  main : Bool
  tag : Bool
  deriving DecidableEq, Repr

/-- The frame image (R139): each element lit or dark, whether the drives are active, and the brightness in force. -/
structure FrameImage where
  windows : Vector Elements 48
  active : Bool
  brightness : Nat
  deriving DecidableEq, Repr

/-- The class options of a class (R124). -/
structure ClassOptions where
  horn : Bool
  chime : Bool
  deriving DecidableEq, Repr

/-- The result codes (R166, E.2). -/
inductive Result where
  | ok
  | listEnd
  | busy
  | noSuch
  | badValue
  | inService
  | outOfService
  | lineTaken
  | notHostPoint
  | notShelved
  | alreadyShelved
  | shelfFull
  | notListed
  | noMark
  | markLost
  | unknownCommand
  deriving DecidableEq, Repr

/-- The answer the host link prepares at the taking of a command: its result and its data bytes (R162, R166). -/
structure Answer where
  result : Result
  data : List Byte
  deriving DecidableEq, Repr

/-- The transaction in progress (R162 to R165, R169). -/
inductive LinkPhase where
  /-- CSn is high: no transaction. -/
  | idle
  /-- CSn is low and no command has been taken yet. -/
  | receiving
  /-- CSn is low and the transaction's command has been taken. -/
  | taken
  /-- CSn has been low since before RESETn returned high: the rest of the low period is no transaction (R169). -/
  | ignored
  deriving DecidableEq, Repr

/-- The host link (R162 to R169). -/
structure Link where
  phase : LinkPhase
  bytes : Nat
  command : Option Byte
  params : List Byte
  status : Option Byte
  answer : Option Answer
  lastErr : Bool
  deriving DecidableEq, Repr

/-- MODEL'S OWN (DESIGN CHOICE, log entry 4): how far the second tick in progress has been taken. -/
inductive SecondStage where
  /-- no part of a second tick has been taken since the last one was completed and a tick began -/
  | notBegun
  /-- the uptime has been increased by a WINDOW_BOUNDARY or SHELF_EXPIRY taken ahead of SECOND_TICK -/
  | begun
  /-- SECOND_TICK has been taken whole in this tick -/
  | taken
  deriving DecidableEq, Repr

/-- The state of the AC48 and the queue of commands waiting for it. -/
structure State where
  /-- the commands waiting, the next one first -/
  pending : List Instr
  -- timebase
  periodCount : Fin 1024
  tickCount : Fin 1000
  uptime : Nat
  phase : Fin 8
  frameCount : Fin 16
  -- input unit
  lines : BitVec 32
  chatterLimit : Nat
  buttons : Vector ButtonRec 4
  -- operator unit
  lockMask : BitVec 4
  -- point records
  points : Vector PointRec 48
  -- list unit
  standing : List PointNo
  lgen : BitVec 16
  /-- the point whose entry the cursor is on; none is END -/
  cursor : Option PointNo
  mark : Mark
  -- group unit
  groups : Vector GroupRec 8
  -- shelf unit: none is a free slot
  slots : Vector (Option SlotRec) 8
  -- panel unit
  bankA : Vector WindowEntry 48
  bankB : Vector WindowEntry 48
  live : Bank
  swapPending : Bool
  reqBrightness : Nat
  brightness : Nat
  panelEnabled : Bool
  hostTimer : Nat
  buttonTest : Bool
  /-- the image of the frame in progress; none before the first frame start after a hard reset -/
  frame : Option FrameImage
  -- audible unit
  classOptions : Vector ClassOptions 4
  chimeTimer : Nat
  /-- HORN active (DEDUCED, log entry 16) -/
  horn : Bool
  -- attention unit
  causes : BitVec 8
  enables : BitVec 8
  /-- ATTNn asserted (DEDUCED, log entry 16) -/
  attn : Bool
  -- host link
  link : Link
  -- the model's own
  phaseAhead : Bool
  second : SecondStage
  orderIndex : Nat
  deriving DecidableEq, Repr

/-- The AC48 has no state that stops it: no rule of the spec names a fault. Nobody raises one. -/
inductive Fault where
  deriving DecidableEq

/-- Why a command has no meaning in the model. -/
inductive Refusal where
  /-- Raised by `exec` alone, for a row whose meaning is not written. Safe: nothing is claimed of the row. -/
  | notModelled (mnemonic : String)
  deriving DecidableEq, Repr

/-- The record of every point after a hard reset (R6). -/
def PointRec.reset : PointRec where
  source := .host
  polarity := .whenClosed
  debounce := 10
  seqType := .latching
  cls := 3
  group := 0
  inService := false
  line := .normal
  eff := .normal
  state := .quiet
  shelf := none
  sounding := false
  chatterCount := 0
  lockout := false
  repeatCount := 0
  entryTime := none
  lastChange := none
  run := 0

/-- The host link after a hard reset with CSn high (R169). -/
def Link.reset : Link where
  phase := .idle
  bytes := 0
  command := none
  params := []
  status := none
  answer := none
  lastErr := false

/-- The machine right after a hard reset (R6, R20, R36, R79, R101, R116, R128, R150, R156, R161, R169), with nothing
waiting. `run`, `frame`, `link.status`, `link.answer` and the model's own fields: DESIGN CHOICE, log entry 13. -/
def State.reset : State where
  pending := []
  periodCount := 0
  tickCount := 0
  uptime := 0
  phase := 0
  frameCount := 0
  lines := 0xFFFFFFFF#32
  chatterLimit := 0
  buttons := Vector.replicate 4 ⟨false, 0, 0#8⟩
  lockMask := 0#4
  points := Vector.replicate 48 PointRec.reset
  standing := []
  lgen := 0#16
  cursor := none
  mark := .none
  groups := Vector.replicate 8 ⟨false, .off⟩
  slots := Vector.replicate 8 none
  bankA := Vector.replicate 48 .unbound
  bankB := Vector.replicate 48 .unbound
  live := .a
  swapPending := false
  reqBrightness := 16
  brightness := 16
  panelEnabled := true
  hostTimer := 0
  buttonTest := false
  frame := none
  classOptions := Vector.replicate 4 ⟨true, true⟩
  chimeTimer := 0
  horn := false
  causes := 0#8
  enables := 0#8
  attn := false
  link := Link.reset
  phaseAhead := false
  second := .notBegun
  orderIndex := 0

end Sys2Proof.Machine
end

