-- ==== Sys2Proof/Machine/Operands.lean ====
section
/-!
DEFINITION. The operand forms: how the parameter bytes of a host command are read and how data bytes are laid out
(10_host_link_and_command_set.md, section E). A reading answers none where R172 gives the command its refusal check.
-/

namespace Sys2Proof.Machine

/-! ### Numbers in parameter bytes (R172) -/

/-- A point number, 0 to 47. -/
def pointNo? (b : Byte) : Option PointNo :=
  if h : b.toNat < 48 then some ⟨b.toNat, h⟩ else none

/-- A window number, 0 to 47. -/
def windowNo? (b : Byte) : Option WindowNo :=
  if h : b.toNat < 48 then some ⟨b.toNat, h⟩ else none

/-- A class number, 0 to 3. -/
def classNo? (b : Byte) : Option ClassNo :=
  if h : b.toNat < 4 then some ⟨b.toNat, h⟩ else none

/-- A group number, 0 to 7. -/
def groupNo? (b : Byte) : Option GroupNo :=
  if h : b.toNat < 8 then some ⟨b.toNat, h⟩ else none

/-- A slot number, 0 to 7. -/
def slotNo? (b : Byte) : Option SlotNo :=
  if h : b.toNat < 8 then some ⟨b.toNat, h⟩ else none

/-! ### Coded values in parameter bytes -/

/-- A condition: 00H NORMAL, 01H OFF-NORMAL (E.3). -/
def condition? (b : Byte) : Option Condition :=
  if b = 0x00#8 then some .normal else if b = 0x01#8 then some .offNormal else none

/-- A byte that must be 00H or 01H: SET PANEL, LAMP TEST (E.8). -/
def onOff? (b : Byte) : Option Bool :=
  if b = 0x00#8 then some false else if b = 0x01#8 then some true else none

/-- A bank: 00H A, 01H B (E.8). -/
def bank? (b : Byte) : Option Bank :=
  if b = 0x00#8 then some .a else if b = 0x01#8 then some .b else none

/-- The source byte of DEFINE POINT: 00H-1FH FI0-FI31, 80H HOST (E.4). -/
def source? (b : Byte) : Option Source :=
  if h : b.toNat < 32 then some (.line ⟨b.toNat, h⟩) else if b = 0x80#8 then some .host else none

/-- Bits 6-5 of the options byte of DEFINE POINT; 3 is no sequence type (E.4). -/
def seqType? (b : Byte) : Option SeqType :=
  match (b.extractLsb' 5 2).toNat with
  | 0 => some .latching
  | 1 => some .selfClearing
  | 2 => some .status
  | _ => none

/-- Bit 7 of the options byte of DEFINE POINT (E.4). -/
def polarityOf (b : Byte) : Polarity := if b.getLsbD 7 then .whenOpen else .whenClosed

/-- Bits 4-3 of the options byte of DEFINE POINT (E.4). -/
def classOf (b : Byte) : ClassNo := (b.extractLsb' 3 2).toFin

/-- Bits 2-0 of the options byte of DEFINE POINT (E.4). -/
def groupOf (b : Byte) : GroupNo := (b.extractLsb' 0 3).toFin

/-- The debounce byte: 1 to 250 samples (E.4). -/
def debounce? (b : Byte) : Option Nat :=
  if 1 ≤ b.toNat ∧ b.toNat ≤ 250 then some b.toNat else none

/-- The six configuration fields of DEFINE POINT; none where check 3 of R8 fails. -/
def pointConfig? (source options debounce : Byte) : Option PointConfig :=
  match source? source, seqType? options, debounce? debounce with
  | some src, some t, some d => some ⟨src, polarityOf options, d, t, classOf options, groupOf options⟩
  | _, _, _ => none

/-- The scope of ACKNOWLEDGE and RESET POINTS (R47). -/
inductive Scope where
  | point (p : PointNo)
  | group (g : GroupNo)
  | all
  deriving DecidableEq, Repr

/-- The scope byte (R47, E.5): bits 7-6 the kind, bits 5-0 the number. The refusal is the code R47 gives. -/
def scopeOf (b : Byte) : Except Result Scope :=
  let n := (b.extractLsb' 0 6).toNat
  match (b.extractLsb' 6 2).toNat with
  | 0 => if h : n < 48 then .ok (.point ⟨n, h⟩) else .error .noSuch
  | 1 => if h : n < 8 then .ok (.group ⟨n, h⟩) else .error .noSuch
  | 2 => if n = 0 then .ok .all else .error .badValue
  | _ => .error .badValue

/-- A window entry in a parameter byte (R132, E.5). -/
def windowEntry? (b : Byte) : Option WindowEntry :=
  let n := (b.extractLsb' 0 6).toNat
  match (b.extractLsb' 6 2).toNat with
  | 0 => if n = 0 then some .unbound else none
  | 1 => if h : n < 48 then some (.point ⟨n, h⟩) else none
  | 2 => if h : n < 8 then some (.group ⟨n, h⟩) else none
  | _ => none

/-- The options byte of SET CLASS OPTIONS: bit 0 horn, bit 1 chime, bits 7-2 unused (E.8). -/
def classOptions? (b : Byte) : Option ClassOptions :=
  if b.toNat < 4 then some ⟨b.getLsbD 0, b.getLsbD 1⟩ else none

/-- The options byte of SET GROUP OPTIONS: bit 0 first-out, bits 7-1 unused (E.8). -/
def groupOption? (b : Byte) : Option Bool :=
  if b.toNat < 2 then some (b.getLsbD 0) else none

/-- The chatter limit: 0 or 2-15 (R25). -/
def chatterLimit? (b : Byte) : Option Nat :=
  if b.toNat = 0 ∨ (2 ≤ b.toNat ∧ b.toNat ≤ 15) then some b.toNat else none

/-- The brightness: 1-16 (R144). -/
def brightness? (b : Byte) : Option Nat :=
  if 1 ≤ b.toNat ∧ b.toNat ≤ 16 then some b.toNat else none

/-- The lock byte: bits 3-0, bits 7-4 unused (E.8). -/
def lockMask? (b : Byte) : Option (BitVec 4) :=
  if b.toNat < 16 then some (b.extractLsb' 0 4) else none

/-- The duration of SHELVE, two bytes, most significant first: 1-1440 minutes (R105, E.8). -/
def minutes? (high low : Byte) : Option Nat :=
  let m := high.toNat * 256 + low.toNat
  if 1 ≤ m ∧ m ≤ 1440 then some m else none

/-! ### Data bytes (R172, E.3 to E.8) -/

/-- A number in one byte. -/
def byte (n : Nat) : Byte := BitVec.ofNat 8 n

/-- A number in two bytes, most significant first. -/
def bytes2 (n : Nat) : List Byte := [byte (n / 256), byte n]

/-- A number in three bytes, most significant first. -/
def bytes3 (n : Nat) : List Byte := [byte (n / 65536), byte (n / 256), byte n]

/-- A number in four bytes, most significant first. -/
def bytes4 (n : Nat) : List Byte := [byte (n / 16777216), byte (n / 65536), byte (n / 256), byte n]

/-- A time: FFFFFFFFH when absent (R4, R172). -/
def timeBytes (t : Option Nat) : List Byte := bytes4 (t.getD 0xFFFFFFFF)

/-- A point number that may be absent: FFH (R172). -/
def pointByte (p : Option PointNo) : Byte :=
  match p with
  | some p => byte p.val
  | none => 0xFF#8

/-- A byte from its eight bits, bit 7 first. -/
def bits8 (b7 b6 b5 b4 b3 b2 b1 b0 : Bool) : Byte :=
  BitVec.ofBool b7 ++ BitVec.ofBool b6 ++ BitVec.ofBool b5 ++ BitVec.ofBool b4 ++
    BitVec.ofBool b3 ++ BitVec.ofBool b2 ++ BitVec.ofBool b1 ++ BitVec.ofBool b0

/-- The result codes (E.2). -/
def Result.code : Result → Byte
  | .ok => 0x00#8
  | .listEnd => 0x01#8
  | .busy => 0x81#8
  | .noSuch => 0x82#8
  | .badValue => 0x83#8
  | .inService => 0x84#8
  | .outOfService => 0x85#8
  | .lineTaken => 0x86#8
  | .notHostPoint => 0x87#8
  | .notShelved => 0x88#8
  | .alreadyShelved => 0x89#8
  | .shelfFull => 0x8A#8
  | .notListed => 0x8B#8
  | .noMark => 0x8C#8
  | .markLost => 0x8D#8
  | .unknownCommand => 0x8E#8

/-- LASTERR after a result: clear for OK and LIST_END, set for the refusal codes and MARK_LOST (R166, R167). -/
def Result.setsLastErr : Result → Bool
  | .ok => false
  | .listEnd => false
  | .busy | .noSuch | .badValue | .inService | .outOfService | .lineTaken | .notHostPoint | .notShelved
  | .alreadyShelved | .shelfFull | .notListed | .noMark | .markLost | .unknownCommand => true

/-- The state codes, also of a group summary (E.3). -/
def AnnState.code : AnnState → Nat
  | .quiet => 0
  | .alarmNew => 1
  | .alarmAcked => 2
  | .clearedNew => 3
  | .ringback => 4

/-- The first-out state codes (E.3). -/
def FirstOut.code : FirstOut → Nat
  | .off => 0
  | .armed => 1
  | .held _ => 2
  | .spent => 3

/-- The first-out point, present exactly while HELD (R68). -/
def FirstOut.point? : FirstOut → Option PointNo
  | .held p => some p
  | .off | .armed | .spent => none

/-- The sequence type codes (E.4). -/
def SeqType.code : SeqType → Nat
  | .latching => 0
  | .selfClearing => 1
  | .status => 2

/-- The source byte (E.4). -/
def Source.byte : Source → Byte
  | .line k => Machine.byte k.val
  | .host => 0x80#8

/-- The options byte of a point (E.4). -/
def PointConfig.optionsByte (c : PointConfig) : Byte :=
  BitVec.ofBool (c.polarity == .whenOpen) ++ BitVec.ofNat 2 c.seqType.code ++ BitVec.ofNat 2 c.cls.val ++
    BitVec.ofNat 3 c.group.val

/-- A window entry in a data byte (E.5). -/
def WindowEntry.byte : WindowEntry → Byte
  | .unbound => 0x00#8
  | .point p => 1#2 ++ BitVec.ofNat 6 p.val
  | .group g => 2#2 ++ BitVec.ofNat 6 g.val

end Sys2Proof.Machine
end

