-- ==== Sys2Proof/Machine/Flags.lean ====
section
/-!
DEFINITION. The accessors of State, and everything the spec derives from it at the moment of reading: listed and
first-out (R5), quiet and the summary state of a group (R69, R77), the lamp test (R146), the levels that HORN and ATTNn
are kept at (R125, R160), the level of CHIME (R126), the cadences a tick names (R152), and the status byte (R168).
-/

namespace Sys2Proof.Machine

/-- P0 to P47, ascending. -/
def allPoints : List PointNo := List.finRange 48

/-- FI0 to FI31, ascending. -/
def allLines : List LineNo := List.finRange 32

/-- G0 to G7, ascending. -/
def allGroups : List GroupNo := List.finRange 8

/-- S0 to S7, ascending. -/
def allSlots : List SlotNo := List.finRange 8

/-! ### Accessors -/

/-- The record of a point. -/
def State.point (s : State) (p : PointNo) : PointRec := s.points[p]

/-- Replace the record of a point. -/
def State.setPoint (s : State) (p : PointNo) (r : PointRec) : State := { s with points := s.points.set p r }

/-- The record of a group. -/
def State.groupRec (s : State) (g : GroupNo) : GroupRec := s.groups[g]

/-- Replace the record of a group. -/
def State.setGroup (s : State) (g : GroupNo) (r : GroupRec) : State := { s with groups := s.groups.set g r }

/-- A shelf slot: none when free. -/
def State.slot (s : State) (k : SlotNo) : Option SlotRec := s.slots[k]

/-- Replace a shelf slot. -/
def State.setSlot (s : State) (k : SlotNo) (r : Option SlotRec) : State := { s with slots := s.slots.set k r }

/-- The class options of a class. -/
def State.classOption (s : State) (c : ClassNo) : ClassOptions := s.classOptions[c]

/-- A pushbutton, numbered as in the lock and level bytes (E.3). -/
inductive Button where
  | ack
  | sil
  | rst
  | tst
  deriving DecidableEq, Repr

/-- The bit of a button in the lock and level bytes (E.3). -/
def Button.idx : Button → Fin 4
  | .ack => 0
  | .sil => 1
  | .rst => 2
  | .tst => 3

/-- The debouncer and press count of a button. -/
def State.button (s : State) (b : Button) : ButtonRec := s.buttons[b.idx]

/-- Replace the debouncer and press count of a button. -/
def State.setButton (s : State) (b : Button) (r : ButtonRec) : State := { s with buttons := s.buttons.set b.idx r }

/-- Whether a button is locked (R121). -/
def State.locked (s : State) (b : Button) : Bool := s.lockMask.getLsbD b.idx.val

/-! ### The point table's derived fields -/

/-- Whether the standing list holds an entry for the point (R5). -/
def State.isListed (s : State) (p : PointNo) : Bool := s.standing.contains p

/-- Whether the point's group is HELD and names it (R5, R72). -/
def State.isFirstOut (s : State) (p : PointNo) : Bool := (s.groupRec (s.point p).group).firstOut == .held p

/-- The in-service point whose source is the field line; by R11 there is at most one (DEDUCED, log entry 14). -/
def State.pointOnLine (s : State) (k : LineNo) : Option PointNo :=
  allPoints.find? fun p => (s.point p).inService && (s.point p).source == .line k

/-- A line level read through a polarity: a closed contact is low (R2). -/
def Polarity.read (pol : Polarity) (high : Bool) : Condition :=
  match pol with
  | .whenClosed => if high then .normal else .offNormal
  | .whenOpen => if high then .offNormal else .normal

/-! ### Groups -/

/-- A group is quiet while none of its LATCHING or SELF-CLEARING members is listed (R69). -/
def State.groupQuiet (s : State) (g : GroupNo) : Bool :=
  s.standing.all fun q => (s.point q).group != g || (s.point q).seqType == .status

/-- The rank of a state in the group summary (R77): the higher, the more urgent. -/
def AnnState.rank : AnnState → Nat
  | .quiet => 0
  | .ringback => 1
  | .alarmAcked => 2
  | .clearedNew => 3
  | .alarmNew => 4

/-- The highest-ranked state among a group's listed members, QUIET with none listed (R77). -/
def State.groupSummary (s : State) (g : GroupNo) : AnnState :=
  s.standing.foldl
    (fun best q => if (s.point q).group = g ∧ best.rank < (s.point q).state.rank then (s.point q).state else best) .quiet

/-! ### Levels and status -/

/-- The level R125 gives HORN. -/
def State.hornLevel (s : State) : Bool :=
  allPoints.any fun p => (s.point p).sounding && (s.classOption (s.point p).cls).horn

/-- The level R160 gives ATTNn: asserted while some cause is pending and enabled. -/
def State.attnLevel (s : State) : Bool := (s.causes &&& s.enables) != 0#8

/-- CHIME is active while the chime timer is above 0 (R126). -/
def State.chimeActive (s : State) : Bool := 0 < s.chimeTimer

/-- The lamp test is in force while a source holds (R146). -/
def State.lampTestOn (s : State) : Bool := s.buttonTest || decide (0 < s.hostTimer)

/-- The cadences that fall on a tick (R152). -/
structure Cadences where
  sample : Bool
  frameStart : Bool
  secondTick : Bool
  rowSlot : Fin 8
  deriving DecidableEq, Repr

/-- What a tick names by its tick count (R152). -/
def cadencesOf (tickCount : Fin 1000) : Cadences where
  sample := tickCount.val % 2 = 0
  frameStart := tickCount.val % 8 = 0
  secondTick := tickCount.val = 0
  rowSlot := ⟨tickCount.val % 8, Nat.mod_lt _ (by decide)⟩

/-- No point is in service (NOSVC, R168). -/
def State.noService (s : State) : Bool := allPoints.all fun p => !(s.point p).inService

/-- Some shelf slot is used (SHELVED, R104, R168). -/
def State.anyShelved (s : State) : Bool := allSlots.any fun k => (s.slot k).isSome

/-- A chatter lockout is in force on some point (CHATTER, R27, R168). -/
def State.anyLockout (s : State) : Bool := allPoints.any fun p => (s.point p).lockout

/-- The status byte (R168, E.2). -/
def State.statusByte (s : State) : Byte :=
  bits8 s.attn s.swapPending s.lampTestOn s.horn s.link.lastErr s.noService s.anyShelved s.anyLockout

end Sys2Proof.Machine
end

