-- ==== Sys2Proof/Machine/Ops.lean ====
section
/-!
DEFINITION. The named operations of the attention, audible, list, group and panel units, which the sequence engine and
the commands share. Each is one act of its unit, as its rule gives it.
-/

namespace Sys2Proof.Machine

/-! ### Attention unit (R157, R160) -/

/-- The eight attention causes (R157). -/
inductive Cause where
  | newAlert
  | returned
  | shelf
  | chatter
  | button
  | list
  | swap
  | test
  deriving DecidableEq, Repr

/-- The bit of a cause in every cause byte (E.3). -/
def Cause.bit : Cause → Byte
  | .newAlert => 0x01#8
  | .returned => 0x02#8
  | .shelf => 0x04#8
  | .chatter => 0x08#8
  | .button => 0x10#8
  | .list => 0x20#8
  | .swap => 0x40#8
  | .test => 0x80#8

/-- The attention unit re-evaluates ATTNn (R160). -/
def State.refreshAttn (s : State) : State := { s with attn := s.attnLevel }

/-- A cause is set pending, enabled or not; ATTNn follows (R157, R160). -/
def State.setCause (s : State) (c : Cause) : State := { s with causes := s.causes ||| c.bit }.refreshAttn

/-! ### Audible unit (R125, R126) -/

/-- The ticks of a chime pulse (R126). -/
def chimeTicks : Nat := 500

/-- The audible unit re-evaluates HORN (R125). -/
def State.refreshHorn (s : State) : State := { s with horn := s.hornLevel }

/-- A chime trigger that always acts: the lamp test coming into force (R126). -/
def State.chimeTrigger (s : State) : State := { s with chimeTimer := chimeTicks }

/-- A chime trigger from a point: it acts if the point's class has chime enabled (R126). -/
def State.pointChime (s : State) (p : PointNo) : State :=
  if (s.classOption (s.point p).cls).chime then s.chimeTrigger else s

/-! ### List unit (R84 to R88) -/

/-- Put `p` immediately after the last entry that `upTo` holds of, or at the head where there is none (R84, R86). -/
def insertAfterLast (upTo : PointNo → Bool) (p : PointNo) : List PointNo → List PointNo
  | [] => [p]
  | q :: qs => if upTo q || qs.any upTo then q :: insertAfterLast upTo p qs else p :: q :: qs

/-- The entry that follows the entry of `p`, or END (none). -/
def successor (p : PointNo) : List PointNo → Option PointNo
  | [] => none
  | q :: qs => if q = p then qs.head? else successor p qs

/-- A change of the standing list is counted: LGEN + 1 and LIST (R87). -/
def State.countListChange (s : State) : State := { s with lgen := s.lgen + 1#16 }.setCause .list

/-- The entries that a new or moved entry of class `c` stands after: those of an equal or lower class number. -/
def State.upToClass (s : State) (c : ClassNo) (q : PointNo) : Bool := (s.point q).cls ≤ c

/-- An insertion (R84). -/
def State.listInsert (s : State) (p : PointNo) : State :=
  { s with standing := insertAfterLast (s.upToClass (s.point p).cls) p s.standing }.countListChange

/-- A removal, with the cursor and the mark adjusted (R85). -/
def State.listRemove (s : State) (p : PointNo) : State :=
  { s with
    standing := s.standing.filter (· != p)
    cursor := if s.cursor = some p then successor p s.standing else s.cursor
    mark := if s.mark = Mark.entry p then .lost else s.mark }.countListChange

/-- A class move of the entry of `p`, whose class field already holds the new class (R86). -/
def State.listMove (s : State) (p : PointNo) : State :=
  { s with
    standing :=
      insertAfterLast (s.upToClass (s.point p).cls) p (s.standing.filter (· != p)) }.countListChange

/-! ### Group unit (R70) -/

/-- A notice to the group unit about a member (R70). -/
inductive Notice where
  /-- a LATCHING or SELF-CLEARING point has newly entered the list in ALARM-NEW -/
  | newAlert
  /-- the sequence engine has taken the point's entry off the list -/
  | leftList
  /-- the point has been shelved or removed from service -/
  | withdrawn
  deriving DecidableEq, Repr

/-- The table of R70 for a notice about member `q`; `quietAfter` is quiet as judged when the notice is taken. -/
def noticeTable (n : Notice) (q : PointNo) (quietAfter : Bool) (f : FirstOut) : FirstOut :=
  match f, n with
  | .off, _ => .off
  | .armed, .newAlert => .held q
  | .held p, .newAlert => .held p
  | .spent, .newAlert => .spent
  | .armed, .leftList => .armed
  | .held p, .leftList => if quietAfter then .armed else .held p
  | .spent, .leftList => if quietAfter then .armed else .spent
  | .armed, .withdrawn => .armed
  | .held p, .withdrawn => if quietAfter then .armed else if q = p then .spent else .held p
  | .spent, .withdrawn => if quietAfter then .armed else .spent

/-- The group unit takes a notice about `q`; the group judged is q's group (R70). -/
def State.groupNotice (s : State) (n : Notice) (q : PointNo) : State :=
  let g := (s.point q).group
  let r := s.groupRec g
  s.setGroup g { r with firstOut := noticeTable n q (s.groupQuiet g) r.firstOut }

/-! ### Panel unit: the lamp test (R120, R146, R147) -/

/-- The ticks of a host lamp test (R147). -/
def hostTestTicks : Nat := 5000

/-- A source of the lamp test is about to begin: the chime trigger of a test that comes into force from no source
(R146, R126). -/
def State.lampTestChime (s : State) : State := if s.lampTestOn then s else s.chimeTrigger

/-- A source of the lamp test has ceased: TEST is set if the other does not hold (R146). -/
def State.lampTestCeased (s : State) : State := if s.lampTestOn then s else s.setCause .test

/-- The button test comes into force (R119, R120). -/
def State.beginButtonTest (s : State) : State := { s.lampTestChime with buttonTest := true }

/-- A button test that is in force ends; otherwise nothing happens (R120). -/
def State.endButtonTest (s : State) : State :=
  if s.buttonTest then { s with buttonTest := false }.lampTestCeased else s

/-- LAMP TEST start (R147). -/
def State.startHostTest (s : State) : State := { s.lampTestChime with hostTimer := hostTestTicks }

/-- A running host test timer stops at 0; a stopped one is left (R147). -/
def State.stopHostTest (s : State) : State :=
  if 0 < s.hostTimer then { s with hostTimer := 0 }.lampTestCeased else s

/-! ### Timebase (R154) -/

/-- The value at which the uptime holds, FFFFFFFEH (R154). -/
def uptimeMax : Nat := 0xFFFFFFFE

/-- The uptime increase of a second tick (R154). -/
def State.increaseUptime (s : State) : State :=
  { s with uptime := if s.uptime < uptimeMax then s.uptime + 1 else s.uptime }

end Sys2Proof.Machine
end

