-- ==== Sys2Proof/Machine/Sequence.lean ====
section
/-!
DEFINITION. The sequence engine (03_annunciation_sequences.md): the tables of the three sequence types, the five ordered
steps of a change of state (R41), the actions with a scope (R49), shelve and unshelve notices (R64, R65), and the two
stages of the soft reset (R66).
-/

namespace Sys2Proof.Machine

/-- The events of the sequence tables that change a state (R38); SILENCE changes none and stands apart (R46). -/
inductive SeqEvent where
  | offNormal
  | normal
  | ack
  | reset
  deriving DecidableEq, Repr

/-- What a row of a sequence table does to the sounding flag. -/
inductive Sound where
  | keep
  | set
  | clear
  deriving DecidableEq, Repr

/-- A row of a sequence table: the state entered, and its "Also" column (R42 to R44). -/
structure Transition where
  dest : AnnState
  sound : Sound
  realert : Bool
  deriving DecidableEq, Repr

/-- The rows of the LATCHING table that change the state (R42). -/
def latchingTable : AnnState → SeqEvent → Option Transition
  | .quiet, .offNormal => some ⟨.alarmNew, .set, false⟩
  | .alarmNew, .normal => some ⟨.clearedNew, .keep, false⟩
  | .alarmNew, .ack => some ⟨.alarmAcked, .clear, false⟩
  | .alarmAcked, .normal => some ⟨.ringback, .keep, false⟩
  | .clearedNew, .offNormal => some ⟨.alarmNew, .set, true⟩
  | .clearedNew, .ack => some ⟨.ringback, .clear, false⟩
  | .ringback, .offNormal => some ⟨.alarmNew, .set, true⟩
  | .ringback, .reset => some ⟨.quiet, .keep, false⟩
  | _, _ => none

/-- The SELF-CLEARING table: the LATCHING table but for two rows, and RESET has no effect in any state (R43). -/
def selfClearingTable : AnnState → SeqEvent → Option Transition
  | .alarmAcked, .normal => some ⟨.quiet, .keep, false⟩
  | .clearedNew, .ack => some ⟨.quiet, .clear, false⟩
  | _, .reset => none
  | st, ev => latchingTable st ev

/-- The STATUS table (R44). -/
def statusTable : AnnState → SeqEvent → Option Transition
  | .quiet, .offNormal => some ⟨.alarmAcked, .keep, false⟩
  | .alarmAcked, .normal => some ⟨.quiet, .keep, false⟩
  | _, _ => none

/-- The table of a sequence type (R37). -/
def seqTable : SeqType → AnnState → SeqEvent → Option Transition
  | .latching => latchingTable
  | .selfClearing => selfClearingTable
  | .status => statusTable

/-- The row an event meets at a point. An out-of-service point takes no event (R38), and an event leaves a shelved point's
sequence as it is (R45). -/
def State.transition? (s : State) (p : PointNo) (ev : SeqEvent) : Option Transition :=
  let r := s.point p
  if r.inService && r.shelf.isNone then seqTable r.seqType r.state ev else none

/-- The sounding flag after a row. -/
def Sound.apply : Sound → Bool → Bool
  | .keep, b => b
  | .set, _ => true
  | .clear, _ => false

/-- Step 1 of R41: the new state, the last change time, the sounding flag, and the re-alert counted up to 255 (R40). -/
def State.recordChange (s : State) (p : PointNo) (tr : Transition) : State :=
  let r := s.point p
  s.setPoint p { r with
    state := tr.dest
    lastChange := some s.uptime
    sounding := tr.sound.apply r.sounding
    repeatCount := if tr.realert then min 255 (r.repeatCount + 1) else r.repeatCount }

/-- A new entry with its entry time and repeat count 0 (step 2 of R41). -/
def State.enterList (s : State) (p : PointNo) : State :=
  let s := s.listInsert p
  s.setPoint p { s.point p with entryTime := some s.uptime, repeatCount := 0 }

/-- The entry of a listed point removed, its entry time made absent (step 2 of R41; R64; step 1 of R15). -/
def State.leaveList (s : State) (p : PointNo) : State :=
  if s.isListed p then
    let s := s.listRemove p
    s.setPoint p { s.point p with entryTime := none }
  else s

/-- Steps 2 and 3 of R41 for a change of `p` from state `old` to state `new`: the list, then the group's notice. -/
def State.reportList (s : State) (p : PointNo) (old new : AnnState) : State :=
  if old = .quiet ∧ new ≠ .quiet then
    let s := s.enterList p
    if (s.point p).seqType ≠ .status ∧ new = .alarmNew then s.groupNotice .newAlert p else s
  else if new = .quiet ∧ s.isListed p then (s.leaveList p).groupNotice .leftList p
  else s

/-- Steps 4 and 5 of R41 for a change of `p` into `new`: HORN if the sounding flag changed, the chime trigger, and
NEWALERT or RETURN (R55). -/
def State.reportAudible (s : State) (p : PointNo) (new : AnnState) (flagChanged : Bool) : State :=
  let s := if flagChanged then s.refreshHorn else s
  match new with
  | .alarmNew => s.setCause .newAlert
  | .clearedNew | .ringback => (s.pointChime p).setCause .returned
  | .quiet | .alarmAcked => s

/-- A change of a point's state with all its steps, in the order of R41. -/
def State.applyTransition (s : State) (p : PointNo) (tr : Transition) : State :=
  let r := s.point p
  ((s.recordChange p tr).reportList p r.state tr.dest).reportAudible p tr.dest (tr.sound.apply r.sounding != r.sounding)

/-- An event reaches one point (R38). -/
def State.seqEvent (s : State) (p : PointNo) (ev : SeqEvent) : State :=
  match s.transition? p ev with
  | some tr => s.applyTransition p tr
  | none => s

/-- The point arrives if its effective condition is OFF-NORMAL, and stays as it is otherwise (R13, R65, R66). -/
def State.arriveIfOffNormal (s : State) (p : PointNo) : State :=
  if (s.point p).eff = .offNormal then s.seqEvent p .offNormal else s

/-- Delivery of a change of the effective condition (R23): the condition is set, then the notice is taken whole. -/
def State.deliver (s : State) (p : PointNo) (c : Condition) : State :=
  (s.setPoint p { s.point p with eff := c }).seqEvent p (match c with | .offNormal => .offNormal | .normal => .normal)

/-! ### Actions with a scope (R46 to R51) -/

/-- An event applied at one point of a scope, with the count of points changed so far. -/
def actAt (ev : SeqEvent) (sn : State × Nat) (p : PointNo) : State × Nat :=
  match sn.1.transition? p ev with
  | some tr => (sn.1.applyTransition p tr, sn.2 + 1)
  | none => sn

/-- An action on a set of points, one after the other, and the number of points whose state it changed (R49). -/
def State.actOn (s : State) (ev : SeqEvent) (ps : List PointNo) : State × Nat := ps.foldl (actAt ev) (s, 0)

/-- The points a scope covers, ascending (R47, R49). -/
def State.scopePoints (s : State) : Scope → List PointNo
  | .point p => [p]
  | .group g => allPoints.filter fun p => (s.point p).group == g
  | .all => allPoints

/-- The number of set sounding flags. -/
def State.soundingCount (s : State) : Nat := allPoints.countP fun p => (s.point p).sounding

/-- SILENCE: every sounding flag cleared, then HORN re-evaluated (R46). -/
def State.silenceAll (s : State) : State :=
  (allPoints.foldl (fun s p => s.setPoint p { s.point p with sounding := false }) s).refreshHorn

/-! ### Shelving and removal (R64, R65, R106, R110, R15) -/

/-- The shelve notice (R64): flag clear, QUIET, entry removed, then the group's notice and HORN. -/
def State.shelveNotice (s : State) (p : PointNo) : State :=
  let r := s.point p
  let s := s.setPoint p { r with
    sounding := false
    state := .quiet
    lastChange := if r.state = .quiet then r.lastChange else some s.uptime }
  ((s.leaveList p).groupNotice .withdrawn p).refreshHorn

/-- A slot is taken for a point and the point's shelved field set in the same step (R103). -/
def State.takeSlot (s : State) (k : SlotNo) (p : PointNo) (seconds : Nat) : State :=
  (s.setSlot k (some ⟨p, seconds⟩)).setPoint p { s.point p with shelf := some k }

/-- A slot is freed and the shelved field of the point it held cleared in the same step (R103, R104). -/
def State.freeSlot (s : State) (k : SlotNo) (p : PointNo) : State :=
  (s.setSlot k none).setPoint p { s.point p with shelf := none }

/-- The slot of a shelved point is freed; an unshelved point holds none (R104). -/
def State.freeSlotOf (s : State) (p : PointNo) : State :=
  match (s.point p).shelf with
  | some k => s.freeSlot k p
  | none => s

/-- A slot expires (R110): freed, the point unshelved by the notice of R65, and last of all SHELF. -/
def State.expireSlot (s : State) (k : SlotNo) : State :=
  match s.slot k with
  | some r => ((s.freeSlot k r.point).arriveIfOffNormal r.point).setCause .shelf
  | none => s

/-- The live fields of a point that REMOVE FROM SERVICE has withdrawn (steps 3, 4 and 5 of R15). -/
def PointRec.withdrawn (r : PointRec) : PointRec :=
  { r with
    run := 0
    chatterCount := 0
    lockout := false
    line := .normal
    eff := .normal
    sounding := false
    repeatCount := 0
    state := .quiet
    entryTime := none
    lastChange := none
    inService := false }

/-- REMOVE FROM SERVICE, in the order of R15, with HORN following the flags as they then stand. -/
def State.removePoint (s : State) (p : PointNo) : State :=
  let s := (s.leaveList p).freeSlotOf p
  let s := s.setPoint p (s.point p).withdrawn
  (s.groupNotice .withdrawn p).refreshHorn

/-! ### Soft reset (R66) -/

/-- A point record after the first stage (R7). -/
def PointRec.softReset (r : PointRec) : PointRec :=
  { r with
    state := .quiet
    shelf := none
    sounding := false
    chatterCount := 0
    lockout := false
    repeatCount := 0
    entryTime := none
    lastChange := none
    run := 0
    eff := r.line }

/-- A group record after the first stage (R80). -/
def GroupRec.softReset (r : GroupRec) : GroupRec :=
  { r with firstOut := if r.option then .armed else .off }

/-- The first stage: every unit applies its own soft-reset effects; no cause, no notice, no chime (R66, R7, R34, R80,
R102, R116, R129, R151, R161). -/
def State.softResetClear (s : State) : State :=
  let s := allPoints.foldl (fun s p => s.setPoint p (s.point p).softReset) s
  let s := allGroups.foldl (fun s g => s.setGroup g (s.groupRec g).softReset) s
  { s with
    standing := []
    cursor := none
    mark := .none
    slots := Vector.replicate 8 none
    causes := 0#8
    chimeTimer := 0
    hostTimer := 0 }.refreshHorn.refreshAttn

/-- The second stage: the off-normal in-service points arrive, P0 first (R66). -/
def State.reannounce (s : State) : State := allPoints.foldl State.arriveIfOffNormal s

/-- The soft reset: both stages as one operation (R66, R171). -/
def State.softResetAll (s : State) : State := s.softResetClear.reannounce

end Sys2Proof.Machine
end

