-- ==== Sys2Proof/Machine/Link.lean ====
section
/-!
DEFINITION. The host link (10_host_link_and_command_set.md): the transaction, the taking of a command, what MISO
carries, and the link's own rows: TRANSACTION_BEGIN, TRANSACTION_END, SHORT_TRANSACTION, UNKNOWN_COMMAND, SOFT_RESET and
HARD_RESET.
-/

namespace Sys2Proof.Machine

/-- The falling edge of CSn with CSn high: no byte counted, no command decoded, and the status byte composed from the
device as it stands (R162, R168). -/
def State.openTransaction (s : State) : State :=
  { s with link :=
    { phase := .receiving, bytes := 0, command := none, params := [], status := some s.statusByte, answer := none,
      lastErr := s.link.lastErr } }

/-- The rise of CSn. Before the command is taken the transaction is short: what was collected is discarded and LASTERR is
set (R164). After it nothing is undone (R165). A low period left over from a hard reset is no transaction (R169). The
answer stays in State as the record of what was prepared, but MISO offers it no more (DESIGN CHOICE, log entry 10). -/
def State.raiseCs (s : State) : State :=
  match s.link.phase with
  | .idle => s
  | .receiving => { s with link := { s.link with phase := .idle, bytes := 0, command := none, params := [], lastErr := true } }
  | .taken => { s with link := { s.link with phase := .idle, bytes := 0, command := none, params := [] } }
  | .ignored => { s with link := { s.link with phase := .idle } }

/-- The falling edge of CSn. A falling edge with CSn already low means that CSn rose unnamed before it (DESIGN CHOICE, log entry 8). -/
def State.beginTransaction (s : State) : State := s.raiseCs.openTransaction

/-- The command is taken (R163): its unit's act `body` gives the state and the answer, the link counts the bytes and
prepares the answer, and LASTERR takes the value the result calls for (R167). -/
def State.takeCommand (s : State) (mosi : List Byte) (body : State → State × Answer) : State :=
  let out := body s
  { out.1 with link :=
    { s.link with
      phase := .taken, bytes := mosi.length, command := mosi.head?, params := mosi.tail,
      answer := some out.2, lastErr := out.2.result.setsLastErr } }

/-- The row of a host command. Within a transaction the command is taken (R163). After a command has been taken, and in a
low period that is no transaction, the bytes are ignored (R165, R169). With no transaction in progress the row stands for
its whole transaction, from the falling edge to the rise of CSn (DESIGN CHOICE, log entry 7). -/
def hostCommand (c : Instr) (body : State → State × Answer) (s : State) : Host.Outcome State Fault Refusal :=
  let mosi := c.mosiBytes.getD []
  match s.link.phase with
  | .receiving => .next (s.takeCommand mosi body)
  | .idle => .next (s.openTransaction.takeCommand mosi body).raiseCs
  | .taken => .next s
  | .ignored => .next s

/-- A command refused: no unit changes (R166). -/
def refuse (r : Result) (s : State) : State × Answer := (s, ⟨r, []⟩)

/-- A command carried out with OK and its data bytes. -/
def accept (s : State) (data : List Byte) : State × Answer := (s, ⟨.ok, data⟩)

/-- Byte `k` of the transaction on MISO, the first being byte 0 (R162, R165); none while MISO is at high impedance. -/
def State.misoByte (s : State) (k : Nat) : Option Byte :=
  match s.link.phase with
  | .idle => none
  | .ignored => none
  | .receiving => some (if k = 0 then s.link.status.getD 0x00#8 else 0x00#8)
  | .taken =>
    some (if k = 0 then s.link.status.getD 0x00#8
      else if k < s.link.bytes then 0x00#8
      else match s.link.answer with
        | some a => ((a.result.code :: a.data)[k - s.link.bytes]?).getD 0x00#8
        | none => 0x00#8)

/-- Bit `i` of byte `k` on MISO, the most significant first (R162); none while MISO is at high impedance. -/
def State.misoBit (s : State) (k : Nat) (i : Fin 8) : Option Bool := (s.misoByte k).map fun b => b.getMsbD i.val

/-- The complete bytes among the bits of MOSI sampled at the rising edges of SCK in a low period of CSn, the most
significant first; the bits of a last byte that is not complete are discarded (R162, R164). -/
def completeBytes : List Bool → List Byte
  | b₇ :: b₆ :: b₅ :: b₄ :: b₃ :: b₂ :: b₁ :: b₀ :: rest => bits8 b₇ b₆ b₅ b₄ b₃ b₂ b₁ b₀ :: completeBytes rest
  | _ => []

/-! ### The link's rows -/

/-- TRANSACTION_BEGIN (R162, R168). -/
def execTransactionBegin (s : State) : Host.Outcome State Fault Refusal := .next s.beginTransaction

/-- TRANSACTION_END: the rise of CSn (R165). -/
def execTransactionEnd (s : State) : Host.Outcome State Fault Refusal := .next s.raiseCs

/-- SHORT_TRANSACTION: CSn rises before the command is taken (R164). With no transaction in progress the row stands for
the whole low period (DESIGN CHOICE, log entry 7). The bytes collected are discarded and reach no unit. -/
def execShortTransaction (_bytes : List Byte) (s : State) : Host.Outcome State Fault Refusal :=
  match s.link.phase with
  | .idle => .next s.openTransaction.raiseCs
  | .receiving => .next s.raiseCs
  | .taken => .next s.raiseCs
  | .ignored => .next s.raiseCs

/-- UNKNOWN_COMMAND: taken at the command byte, no unit reached, LASTERR set (R170). A `code` that names a command is
answered so too: no sender sends that row for it (DESIGN CHOICE, log entry 11). -/
def execUnknownCommand (code : Byte) (s : State) : Host.Outcome State Fault Refusal :=
  hostCommand (.unknownCommand code) (refuse .unknownCommand) s

/-- SOFT RESET: not refused in any state; both stages are complete before the result (R171). -/
def execSoftReset (s : State) : Host.Outcome State Fault Refusal :=
  hostCommand .softReset (fun s => accept s.softResetAll []) s

/-- The state after RESETn has gone low and returned high: every unit at its hard reset value, the transaction in progress
discarded, and a CSn still low begins no transaction (R169). The queue and the model's count of ordering choices are not
the device's, and stand (DEDUCED, log entry 6). -/
def State.hardReset (s : State) (csLow : Bool) : State :=
  { State.reset with
    pending := s.pending
    orderIndex := s.orderIndex
    link := { Link.reset with phase := if csLow then .ignored else .idle } }

/-- HARD_RESET (R6, R36, R79, R101, R116, R128, R150, R156, R161, R169). -/
def execHardReset (csLow : Bool) (s : State) : Host.Outcome State Fault Refusal := .next (s.hardReset csLow)

end Sys2Proof.Machine
end

