-- ==== Sys2Proof/Machine/Groups.lean ====
section
/-!
DEFINITION. The group unit's commands (04_groups_and_first_out.md): SET GROUP OPTIONS and READ GROUP.
-/

namespace Sys2Proof.Machine

/-- The first-out state after an option change (R75). -/
def optionTable (on quiet : Bool) (f : FirstOut) : FirstOut :=
  if on then
    match f with
    | .off => if quiet then .armed else .spent
    | .armed => .armed
    | .held p => .held p
    | .spent => .spent
  else .off

/-- SET GROUP OPTIONS (R75). -/
def State.setGroupOptions (group options : Byte) (s : State) : State × Answer :=
  match groupNo? group with
  | none => refuse .noSuch s
  | some g =>
    match groupOption? options with
    | none => refuse .badValue s
    | some on => accept (s.setGroup g ⟨on, optionTable on (s.groupQuiet g) (s.groupRec g).firstOut⟩) []

/-- The number of members of a group of which `f` holds. -/
def State.countMembers (s : State) (g : GroupNo) (f : PointNo → Bool) : Nat :=
  allPoints.countP fun p => (s.point p).group == g && f p

/-- The seven data bytes of READ GROUP (R78, E.8). -/
def State.groupData (s : State) (g : GroupNo) : List Byte :=
  let r := s.groupRec g
  [byte r.option.toNat, byte r.firstOut.code, pointByte r.firstOut.point?,
   byte (s.countMembers g fun p => (s.point p).inService),
   byte (s.countMembers g fun p => s.isListed p),
   byte (s.countMembers g fun p => (s.point p).shelf.isSome),
   byte (s.groupSummary g).code]

/-- READ GROUP (R78). -/
def State.readGroup (group : Byte) (s : State) : State × Answer :=
  match groupNo? group with
  | none => refuse .noSuch s
  | some g => accept s (s.groupData g)

/-- SET_GROUP_OPTIONS (R75). -/
def execSetGroupOptions (group options : Byte) (s : State) : Host.Outcome State Fault Refusal :=
  hostCommand (.setGroupOptions group options) (State.setGroupOptions group options) s

/-- READ_GROUP (R78). -/
def execReadGroup (group : Byte) (s : State) : Host.Outcome State Fault Refusal :=
  hostCommand (.readGroup group) (State.readGroup group) s

end Sys2Proof.Machine
end

