-- ==== Sys2Proof/Machine/Listing.lean ====
section
/-!
DEFINITION. The list unit's commands (05_the_standing_list_and_the_list_cursor.md, sections C to E).
-/

namespace Sys2Proof.Machine

/-- LIST TOP: the cursor on the first entry, or END (R90). -/
def State.listTop (s : State) : State × Answer := accept { s with cursor := s.standing.head? } []

/-- LIST SEEK (R91). -/
def State.listSeek (point : Byte) (s : State) : State × Answer :=
  match pointNo? point with
  | none => refuse .noSuch s
  | some p => if s.isListed p then accept { s with cursor := some p } [] else refuse .notListed s

/-- The ten data bytes of READ ENTRY (R92, E.7). -/
def State.entryData (s : State) (p : PointNo) : List Byte :=
  let r := s.point p
  [byte p.val, byte r.state.code,
   BitVec.ofBool (s.isFirstOut p) ++ BitVec.ofBool r.lockout ++ 0#1 ++ BitVec.ofNat 3 r.group.val ++
     BitVec.ofNat 2 r.cls.val,
   byte r.repeatCount] ++ timeBytes r.entryTime ++ bytes2 s.lgen.toNat

/-- READ ENTRY: the entry under the cursor, and the cursor steps forward (R92); LIST_END at END (R93). -/
def State.readEntry (s : State) : State × Answer :=
  match s.cursor with
  | some p => accept { s with cursor := successor p s.standing } (s.entryData p)
  | none => (s, ⟨.listEnd, []⟩)

/-- LIST MARK (R95). -/
def State.listMark (s : State) : State × Answer :=
  accept { s with mark := match s.cursor with | some p => Mark.entry p | none => Mark.atEnd } []

/-- LIST RETURN (R97, R98). -/
def State.listReturn (s : State) : State × Answer :=
  match s.mark with
  | .entry p => accept { s with cursor := some p } []
  | .atEnd => accept { s with cursor := none } []
  | .lost => ({ s with cursor := s.standing.head?, mark := .none }, ⟨.markLost, []⟩)
  | .none => refuse .noMark s

/-- The number of entries whose point satisfies `f`. -/
def State.countEntries (s : State) (f : PointRec → Bool) : Nat := s.standing.countP fun p => f (s.point p)

/-- The nine data bytes of READ LIST SUMMARY (R100, E.8). -/
def State.summaryData (s : State) : List Byte :=
  [byte s.standing.length] ++ bytes2 s.lgen.toNat ++
  [byte (s.countEntries fun r => r.cls == 0), byte (s.countEntries fun r => r.cls == 1),
   byte (s.countEntries fun r => r.cls == 2), byte (s.countEntries fun r => r.cls == 3),
   byte (s.countEntries fun r => r.state == .alarmNew), byte (s.countEntries fun r => r.state == .clearedNew)]

/-! ### The rows -/

/-- LIST_TOP (R90). -/
def execListTop (s : State) : Host.Outcome State Fault Refusal := hostCommand .listTop State.listTop s

/-- LIST_SEEK (R91). -/
def execListSeek (point : Byte) (s : State) : Host.Outcome State Fault Refusal :=
  hostCommand (.listSeek point) (State.listSeek point) s

/-- READ_ENTRY (R92, R93). -/
def execReadEntry (s : State) : Host.Outcome State Fault Refusal := hostCommand .readEntry State.readEntry s

/-- LIST_MARK (R95). -/
def execListMark (s : State) : Host.Outcome State Fault Refusal := hostCommand .listMark State.listMark s

/-- LIST_RETURN (R97, R98). -/
def execListReturn (s : State) : Host.Outcome State Fault Refusal := hostCommand .listReturn State.listReturn s

/-- READ_LIST_SUMMARY (R100). -/
def execReadListSummary (s : State) : Host.Outcome State Fault Refusal :=
  hostCommand .readListSummary (fun s => accept s s.summaryData) s

end Sys2Proof.Machine
end

