-- ==== Sys2Proof/Machine/Panel.lean ====
section
/-!
DEFINITION. The panel unit and the class options (08_panel_drive.md; R124): the frame start and its steps, the window
display, the drives, and the panel's commands.
-/

namespace Sys2Proof.Machine

/-! ### Flash patterns and displays -/

/-- The flash patterns (R140). -/
inductive Pattern where
  | dark
  | steady
  | fast
  | slow
  | wink
  deriving DecidableEq, Repr

/-- Whether an element showing a pattern is lit in a phase (R140). -/
def Pattern.litIn (pat : Pattern) (phase : Fin 8) : Bool :=
  match pat with
  | .dark => false
  | .steady => true
  | .fast => phase.val % 2 = 0
  | .slow => phase.val ≤ 3
  | .wink => phase.val ≤ 5

/-- The MAIN pattern of a state, for a point window and for a group summary (R141, R143). -/
def AnnState.mainPattern : AnnState → Pattern
  | .quiet => .dark
  | .alarmNew => .fast
  | .alarmAcked => .steady
  | .clearedNew => .wink
  | .ringback => .slow

/-- The TAG pattern of a first-out point (R142, precedence 1). -/
def AnnState.firstOutPattern : AnnState → Pattern
  | .quiet => .dark
  | .alarmNew | .clearedNew => .fast
  | .alarmAcked | .ringback => .steady

/-- The TAG pattern of an in-service point, by precedence (R142). -/
def State.tagPattern (s : State) (p : PointNo) : Pattern :=
  if s.isFirstOut p then (s.point p).state.firstOutPattern
  else if (s.point p).shelf.isSome then .steady
  else if (s.point p).lockout then .wink
  else .dark

/-- The MAIN and TAG patterns of a window bound to a point (R141). -/
def State.pointPatterns (s : State) (p : PointNo) : Pattern × Pattern :=
  if (s.point p).inService then
    if (s.point p).shelf.isSome then (.dark, .steady) else ((s.point p).state.mainPattern, s.tagPattern p)
  else (.dark, .dark)

/-- The MAIN and TAG patterns of a window bound to a group (R143). -/
def State.groupPatterns (s : State) (g : GroupNo) : Pattern × Pattern :=
  ((s.groupSummary g).mainPattern,
   if allPoints.any fun p => (s.point p).group == g && (s.point p).shelf.isSome then .steady else .dark)

/-- The MAIN and TAG patterns of a window entry (R141, R143). -/
def State.entryPatterns (s : State) : WindowEntry → Pattern × Pattern
  | .unbound => (.dark, .dark)
  | .point p => s.pointPatterns p
  | .group g => s.groupPatterns g

/-- The bank with the role of live bank (R131). -/
def State.liveBank (s : State) : Vector WindowEntry 48 :=
  match s.live with
  | .a => s.bankA
  | .b => s.bankB

/-- The two elements of a window in the frame (R143); all lit during a lamp test (R146). -/
def State.windowElements (s : State) (w : WindowNo) : Elements :=
  if s.lampTestOn then ⟨true, true⟩
  else
    let pats := s.entryPatterns s.liveBank[w]
    ⟨pats.1.litIn s.phase, pats.2.litIn s.phase⟩

/-- The frame image composed at a frame start (R138 step 4, R139, R143, R145, R146). -/
def State.frameImage (s : State) : FrameImage where
  windows := ⟨((List.finRange 48).map s.windowElements).toArray, by simp⟩
  active := s.panelEnabled || s.lampTestOn
  brightness := s.brightness

/-! ### The steps of a frame start (R138) -/

/-- Step 1: the requested brightness comes into force (R144). -/
def State.brightnessIntoForce (s : State) : State := { s with brightness := s.reqBrightness }

/-- The other letter. -/
def Bank.other : Bank → Bank
  | .a => .b
  | .b => .a

/-- Step 2: a pending swap is carried out (R135). -/
def State.carryOutSwap (s : State) : State :=
  if s.swapPending then { s with live := s.live.other, swapPending := false }.setCause .swap else s

/-- The phase advances and the frame count restarts (R153). -/
def State.advancePhase (s : State) : State := { s with phase := s.phase + 1, frameCount := 0 }

/-- Step 3: the phase and the frame count move, but for the first frame start after a hard reset (R153), and but for an
advance already taken ahead of this frame start (DEDUCED, log entry 3). -/
def State.movePhase (s : State) : State :=
  if s.frame = none then s
  else if s.phaseAhead then { s with phaseAhead := false }
  else if s.frameCount = 15 then s.advancePhase
  else { s with frameCount := s.frameCount + 1 }

/-- Step 4: the frame image. -/
def State.composeFrame (s : State) : State := { s with frame := some s.frameImage }

/-- A frame start: the four steps in the order of R138. -/
def State.startFrame (s : State) : State := s.brightnessIntoForce.carryOutSwap.movePhase.composeFrame

/-- An advance taken ahead of its frame start: the frame just ended was the sixteenth of its phase (R153). -/
def State.advanceAhead (s : State) : State :=
  if s.frame ≠ none ∧ s.frameCount = 15 ∧ s.phaseAhead = false then { s.advancePhase with phaseAhead := true } else s

/-! ### The drives (R130, R139) -/

/-- Whether the row drive RDr is active in the tick in progress (R139): the slot of the tick is its count modulo 8
(R152). -/
def State.rowDrive (s : State) (r : Fin 8) : Bool :=
  match s.frame with
  | some img => img.active && (s.tickCount.val % 8 == r.val)
  | none => false

/-- Whether the element at a row and a column is lit in a frame image (R130): window 6r + c div 2, MAIN on even columns. -/
def FrameImage.lit (img : FrameImage) (r : Fin 8) (c : Fin 12) : Bool :=
  let e := img.windows[6 * r.val + c.val / 2]'(by omega)
  if c.val % 2 = 0 then e.main else e.tag

/-- Whether the column drive CDc is active in CLKIN period `t` of the tick in progress: its element of the slot's row is
lit, and `t` falls in the first B sixteenths, of 64 periods each (R139). -/
def State.columnDrive (s : State) (c : Fin 12) (t : Fin 1024) : Bool :=
  match s.frame with
  | some img =>
    img.active && img.lit ⟨s.tickCount.val % 8, Nat.mod_lt _ (by decide)⟩ c && decide (t.val < img.brightness * 64)
  | none => false

/-! ### Commands -/

/-- Replace an entry of the staging bank, the bank that is not live (R131). -/
def State.setStaging (s : State) (w : WindowNo) (e : WindowEntry) : State :=
  match s.live with
  | .a => { s with bankB := s.bankB.set w e }
  | .b => { s with bankA := s.bankA.set w e }

/-- WRITE WINDOW, checks in the order of R132. -/
def State.writeWindow (window entry : Byte) (s : State) : State × Answer :=
  match windowNo? window with
  | none => refuse .noSuch s
  | some w =>
    match windowEntry? entry with
    | none => refuse .badValue s
    | some e => if s.swapPending then refuse .busy s else accept (s.setStaging w e) []

/-- READ WINDOW (R133). -/
def State.readWindow (bank window : Byte) (s : State) : State × Answer :=
  match windowNo? window with
  | none => refuse .noSuch s
  | some w =>
    match bank? bank with
    | none => refuse .badValue s
    | some .a => accept s [s.bankA[w].byte]
    | some .b => accept s [s.bankB[w].byte]

/-- SWAP BANKS (R135). -/
def State.swapBanks (s : State) : State × Answer :=
  if s.swapPending then refuse .busy s else accept { s with swapPending := true } []

/-- COPY LIVE TO STAGING (R134). -/
def State.copyLive (s : State) : State × Answer :=
  if s.swapPending then refuse .busy s
  else match s.live with
    | .a => accept { s with bankB := s.bankA } []
    | .b => accept { s with bankA := s.bankB } []

/-- SET BRIGHTNESS (R144). -/
def State.setBrightness (brightness : Byte) (s : State) : State × Answer :=
  match brightness? brightness with
  | none => refuse .badValue s
  | some n => accept { s with reqBrightness := n } []

/-- SET PANEL (R145). -/
def State.setPanel (enable : Byte) (s : State) : State × Answer :=
  match onOff? enable with
  | none => refuse .badValue s
  | some on => accept { s with panelEnabled := on } []

/-- LAMP TEST (R147). -/
def State.hostLampTest (value : Byte) (s : State) : State × Answer :=
  match onOff? value with
  | none => refuse .badValue s
  | some true => accept s.startHostTest []
  | some false => accept s.stopHostTest []

/-- The six data bytes of READ PANEL (R149, E.8). -/
def State.panelData (s : State) : List Byte :=
  [bits8 false false false (decide (0 < s.hostTimer)) s.buttonTest s.panelEnabled s.swapPending (s.live == .b),
   byte s.reqBrightness, byte s.brightness] ++ bytes2 s.hostTimer ++ [byte s.phase.val]

/-- SET CLASS OPTIONS (R124). -/
def State.setClassOptions (cls options : Byte) (s : State) : State × Answer :=
  match classNo? cls with
  | none => refuse .noSuch s
  | some c =>
    match classOptions? options with
    | none => refuse .badValue s
    | some o => accept { s with classOptions := s.classOptions.set c o }.refreshHorn []

/-! ### The rows -/

/-- FRAME_START (R138). -/
def execFrameStart (s : State) : Host.Outcome State Fault Refusal := .next s.startFrame

/-- FLASH_PHASE_ADVANCE, taken ahead of its frame start (R153, DEDUCED, log entry 3). -/
def execFlashPhaseAdvance (s : State) : Host.Outcome State Fault Refusal := .next s.advanceAhead

/-- SWAP: the pending swap is carried out (R135, DEDUCED, log entry 3). -/
def execSwap (s : State) : Host.Outcome State Fault Refusal := .next s.carryOutSwap

/-- BRIGHTNESS_INTO_FORCE (R144, DEDUCED, log entry 3). -/
def execBrightnessIntoForce (s : State) : Host.Outcome State Fault Refusal := .next s.brightnessIntoForce

/-- SET_CLASS_OPTIONS (R124). -/
def execSetClassOptions (cls options : Byte) (s : State) : Host.Outcome State Fault Refusal :=
  hostCommand (.setClassOptions cls options) (State.setClassOptions cls options) s

/-- WRITE_WINDOW (R132). -/
def execWriteWindow (window entry : Byte) (s : State) : Host.Outcome State Fault Refusal :=
  hostCommand (.writeWindow window entry) (State.writeWindow window entry) s

/-- READ_WINDOW (R133). -/
def execReadWindow (bank window : Byte) (s : State) : Host.Outcome State Fault Refusal :=
  hostCommand (.readWindow bank window) (State.readWindow bank window) s

/-- SWAP_BANKS (R135). -/
def execSwapBanks (s : State) : Host.Outcome State Fault Refusal := hostCommand .swapBanks State.swapBanks s

/-- COPY_LIVE_TO_STAGING (R134). -/
def execCopyLiveToStaging (s : State) : Host.Outcome State Fault Refusal :=
  hostCommand .copyLiveToStaging State.copyLive s

/-- SET_BRIGHTNESS (R144). -/
def execSetBrightness (brightness : Byte) (s : State) : Host.Outcome State Fault Refusal :=
  hostCommand (.setBrightness brightness) (State.setBrightness brightness) s

/-- SET_PANEL (R145). -/
def execSetPanel (enable : Byte) (s : State) : Host.Outcome State Fault Refusal :=
  hostCommand (.setPanel enable) (State.setPanel enable) s

/-- LAMP_TEST (R147). -/
def execLampTest (value : Byte) (s : State) : Host.Outcome State Fault Refusal :=
  hostCommand (.lampTest value) (State.hostLampTest value) s

/-- READ_PANEL (R149). -/
def execReadPanel (s : State) : Host.Outcome State Fault Refusal :=
  hostCommand .readPanel (fun s => accept s s.panelData) s

end Sys2Proof.Machine
end

