-- ==== Sys2Proof/Machine/Points.lean ====
section
/-!
DEFINITION. The point table's commands (01_points_and_the_point_table.md) and SET CONDITION
(03_annunciation_sequences.md, section E).
-/

namespace Sys2Proof.Machine

/-- Another in-service point has the same field line as its source (check 3 of R10, R11). -/
def State.lineTaken (s : State) (p : PointNo) : Bool :=
  match (s.point p).source with
  | .line k => allPoints.any fun q => q != p && (s.point q).inService && (s.point q).source == .line k
  | .host => false

/-- DEFINE POINT, checks in the order of R8; the six configuration fields are replaced and nothing else (R9). -/
def State.definePoint (point source options debounce : Byte) (s : State) : State × Answer :=
  match pointNo? point with
  | none => refuse .noSuch s
  | some p =>
    if (s.point p).inService then refuse .inService s
    else match pointConfig? source options debounce with
      | none => refuse .badValue s
      | some c => accept (s.setPoint p { s.point p with toPointConfig := c }) []

/-- The line condition a point is placed with: the latest raw sample through its polarity, or NORMAL for HOST (R12). -/
def State.initialCondition (s : State) (p : PointNo) : Condition :=
  match (s.point p).source with
  | .line k => (s.point p).polarity.read (s.lines.getLsbD k.val)
  | .host => .normal

/-- A point is placed in service: its condition initialised (R12), then it arrives if off-normal (R13). -/
def State.placePoint (s : State) (p : PointNo) : State :=
  let c := s.initialCondition p
  (s.setPoint p { s.point p with
    inService := true, line := c, eff := c, run := 0, chatterCount := 0, lockout := false }).arriveIfOffNormal p

/-- PLACE IN SERVICE, checks in the order of R10. -/
def State.placeInService (point : Byte) (s : State) : State × Answer :=
  match pointNo? point with
  | none => refuse .noSuch s
  | some p =>
    if (s.point p).inService then refuse .inService s
    else if s.lineTaken p then refuse .lineTaken s
    else accept (s.placePoint p) []

/-- REMOVE FROM SERVICE (R14, R15). -/
def State.removeFromService (point : Byte) (s : State) : State × Answer :=
  match pointNo? point with
  | none => refuse .noSuch s
  | some p => if (s.point p).inService then accept (s.removePoint p) [] else refuse .outOfService s

/-- The class field takes a new value (R17). A listed point whose class changes has its entry moved, and HORN is
re-evaluated if its sounding flag is set (R18). -/
def State.changeClass (s : State) (p : PointNo) (c : ClassNo) : State :=
  let r := s.point p
  let s' := s.setPoint p { r with cls := c }
  if s.isListed p ∧ r.cls ≠ c then
    if r.sounding then (s'.listMove p).refreshHorn else s'.listMove p
  else s'

/-- SET CLASS (R17, R18). -/
def State.setClass (point cls : Byte) (s : State) : State × Answer :=
  match pointNo? point with
  | none => refuse .noSuch s
  | some p =>
    match classNo? cls with
    | none => refuse .badValue s
    | some c => accept (s.changeClass p c) []

/-- The sixteen data bytes of READ POINT (R19, E.6). -/
def State.pointData (s : State) (p : PointNo) : List Byte :=
  let r := s.point p
  [byte p.val, r.source.byte, r.optionsByte, byte r.debounce,
   bits8 r.inService (r.line == .offNormal) (r.eff == .offNormal) r.sounding r.lockout r.shelf.isSome (s.isListed p)
     (s.isFirstOut p),
   byte ((r.shelf.getD 0).val * 16 + r.state.code),
   byte r.chatterCount, byte r.repeatCount] ++ timeBytes r.entryTime ++ timeBytes r.lastChange

/-- READ POINT (R19). -/
def State.readPoint (point : Byte) (s : State) : State × Answer :=
  match pointNo? point with
  | none => refuse .noSuch s
  | some p => accept s (s.pointData p)

/-- A HOST point's condition is set; the other value sets both conditions and gives the engine a notice (R53). -/
def State.changeCondition (s : State) (p : PointNo) (c : Condition) : State :=
  if (s.point p).line = c then s else (s.setPoint p { s.point p with line := c }).deliver p c

/-- SET CONDITION, checks in the order of R52. -/
def State.setCondition (point condition : Byte) (s : State) : State × Answer :=
  match pointNo? point with
  | none => refuse .noSuch s
  | some p =>
    if (s.point p).inService then
      if (s.point p).source = .host then
        match condition? condition with
        | none => refuse .badValue s
        | some c => accept (s.changeCondition p c) []
      else refuse .notHostPoint s
    else refuse .outOfService s

/-! ### The rows -/

/-- DEFINE_POINT (R8, R9). -/
def execDefinePoint (point source options debounce : Byte) (s : State) : Host.Outcome State Fault Refusal :=
  hostCommand (.definePoint point source options debounce) (State.definePoint point source options debounce) s

/-- PLACE_IN_SERVICE (R10 to R13). -/
def execPlaceInService (point : Byte) (s : State) : Host.Outcome State Fault Refusal :=
  hostCommand (.placeInService point) (State.placeInService point) s

/-- REMOVE_FROM_SERVICE (R14, R15). -/
def execRemoveFromService (point : Byte) (s : State) : Host.Outcome State Fault Refusal :=
  hostCommand (.removeFromService point) (State.removeFromService point) s

/-- SET_CLASS (R17, R18). -/
def execSetClass (point cls : Byte) (s : State) : Host.Outcome State Fault Refusal :=
  hostCommand (.setClass point cls) (State.setClass point cls) s

/-- READ_POINT (R19). -/
def execReadPoint (point : Byte) (s : State) : Host.Outcome State Fault Refusal :=
  hostCommand (.readPoint point) (State.readPoint point) s

/-- SET_CONDITION (R52, R53). -/
def execSetCondition (point condition : Byte) (s : State) : Host.Outcome State Fault Refusal :=
  hostCommand (.setCondition point condition) (State.setCondition point condition) s

end Sys2Proof.Machine
end

