-- ==== Sys2Proof/Machine/Sequences.lean ====
section
/-!
DEFINITION. The host's actions on the sequences: ACKNOWLEDGE, SILENCE and RESET POINTS (03_annunciation_sequences.md,
section D).
-/

namespace Sys2Proof.Machine

/-- An action with a scope byte: the scope is checked, the event applied to every covered point, and the number of points
changed returned (R47, R50, R51). -/
def State.scopedAction (ev : SeqEvent) (scope : Byte) (s : State) : State × Answer :=
  match scopeOf scope with
  | .error r => refuse r s
  | .ok sc =>
    let out := s.actOn ev (s.scopePoints sc)
    accept out.1 [byte out.2]

/-- SILENCE as a host command: the count is the number of flags cleared (R48). -/
def State.hostSilence (s : State) : State × Answer := accept s.silenceAll [byte s.soundingCount]

/-- ACKNOWLEDGE (R47, R50). -/
def execAcknowledge (scope : Byte) (s : State) : Host.Outcome State Fault Refusal :=
  hostCommand (.acknowledge scope) (State.scopedAction .ack scope) s

/-- SILENCE (R48). -/
def execSilence (s : State) : Host.Outcome State Fault Refusal := hostCommand .silence State.hostSilence s

/-- RESET_POINTS (R47, R51). -/
def execResetPoints (scope : Byte) (s : State) : Host.Outcome State Fault Refusal :=
  hostCommand (.resetPoints scope) (State.scopedAction .reset scope) s

end Sys2Proof.Machine
end

