-- ==== Sys2Proof/Machine/Shelving.lean ====
section
/-!
DEFINITION. The shelf unit's commands (06_shelving.md): SHELVE, UNSHELVE and READ SHELF SLOT.
-/

namespace Sys2Proof.Machine

/-- The lowest-numbered free slot (R103). -/
def State.lowestFree (s : State) : Option SlotNo := allSlots.find? fun k => (s.slot k).isNone

/-- SHELVE, checks in the order of R105, carried out in the steps of R106. -/
def State.shelve (point high low : Byte) (s : State) : State × Answer :=
  match pointNo? point with
  | none => refuse .noSuch s
  | some p =>
    if (s.point p).inService then
      if (s.point p).shelf.isSome then refuse .alreadyShelved s
      else match minutes? high low with
        | none => refuse .badValue s
        | some m =>
          match s.lowestFree with
          | none => refuse .shelfFull s
          | some k => accept ((s.takeSlot k p (m * 60)).shelveNotice p) []
    else refuse .outOfService s

/-- UNSHELVE: as an expiry, but SHELF is not set (R111). -/
def State.unshelve (point : Byte) (s : State) : State × Answer :=
  match pointNo? point with
  | none => refuse .noSuch s
  | some p =>
    match (s.point p).shelf with
    | none => refuse .notShelved s
    | some k => accept ((s.freeSlot k p).arriveIfOffNormal p) []

/-- The five data bytes of READ SHELF SLOT (R115, E.8). -/
def State.slotData (s : State) (k : SlotNo) : List Byte :=
  match s.slot k with
  | some r => [0x01#8, byte r.point.val] ++ bytes3 r.remaining
  | none => [0x00#8, 0xFF#8] ++ bytes3 0

/-- READ SHELF SLOT (R115). -/
def State.readShelfSlot (slot : Byte) (s : State) : State × Answer :=
  match slotNo? slot with
  | none => refuse .noSuch s
  | some k => accept s (s.slotData k)

/-- SHELVE (R105, R106). -/
def execShelve (point high low : Byte) (s : State) : Host.Outcome State Fault Refusal :=
  hostCommand (.shelve point high low) (State.shelve point high low) s

/-- UNSHELVE (R111). -/
def execUnshelve (point : Byte) (s : State) : Host.Outcome State Fault Refusal :=
  hostCommand (.unshelve point) (State.unshelve point) s

/-- READ_SHELF_SLOT (R115). -/
def execReadShelfSlot (slot : Byte) (s : State) : Host.Outcome State Fault Refusal :=
  hostCommand (.readShelfSlot slot) (State.readShelfSlot slot) s

end Sys2Proof.Machine
end

