-- ==== Sys2Proof/Config.lean ====
section
/-!
DEFINITION. What the spec leaves open and the model leaves free.
-/

namespace Sys2Proof.Config

/-- FREE VALUE (DESIGN CHOICE, log entry 5). R118: a button action of a sample "may be taken before, between or after" the line
deliveries of the same sample. `buttonEventsBefore n` is how many of the button events still waiting are taken just
before the next field line is dealt with, at the `n`-th such choice. It has no body that a proof could see. -/
opaque buttonEventsBefore : Nat → Nat

end Sys2Proof.Config
end

