-- ==== Sys2Proof/Machine/Input.lean ====
section
/-!
DEFINITION. The input unit and the operator unit (02_field_lines_debounce_and_chatter.md and
07_operator_station_and_audible_outputs.md): SAMPLE with its debouncers, chatter and deliveries, WINDOW_BOUNDARY's
judging, SET CHATTER LIMIT and READ LINES; the buttons' presses, locks and actions, SET BUTTON LOCK and READ BUTTONS.
-/

namespace Sys2Proof.Machine

/-! ### Field lines -/

/-- An accepted change of a point to condition `c`: counted (R24), judged for a lockout (R26, R27), and delivered where
the effective condition changes (R23). -/
def State.acceptChange (s : State) (p : PointNo) (c : Condition) : State :=
  let r := s.point p
  let n := min 15 (r.chatterCount + 1)
  let s := s.setPoint p { r with line := c, run := 0, chatterCount := n }
  if r.lockout then s
  else if s.chatterLimit ≠ 0 ∧ s.chatterLimit ≤ n then
    let s := (s.setPoint p { s.point p with lockout := true }).setCause .chatter
    if r.eff = .offNormal then s else s.deliver p .offNormal
  else if r.eff = c then s
  else s.deliver p c

/-- The debouncer of a point meets a sampled condition (R22). -/
def State.debouncePoint (s : State) (p : PointNo) (c : Condition) : State :=
  let r := s.point p
  if c = r.line then s.setPoint p { r with run := 0 }
  else if r.run + 1 < r.debounce then s.setPoint p { r with run := r.run + 1 }
  else s.acceptChange p c

/-- One field line of a sample, dealt with for the point that has it as its source (R22, R23). -/
def State.sampleLine (s : State) (k : LineNo) : State :=
  match s.pointOnLine k with
  | some p => s.debouncePoint p ((s.point p).polarity.read (s.lines.getLsbD k.val))
  | none => s

/-- A point is judged at a window boundary (R28, R29). -/
def State.judgePoint (s : State) (p : PointNo) : State :=
  let r := s.point p
  if r.lockout ∧ r.chatterCount = 0 then
    let s := (s.setPoint p { r with lockout := false }).setCause .chatter
    if r.line = .normal then s.deliver p .normal else s
  else s.setPoint p { r with chatterCount := 0 }

/-- The point of one field line is judged at a window boundary. -/
def State.judgeLine (s : State) (k : LineNo) : State :=
  match s.pointOnLine k with
  | some p => s.judgePoint p
  | none => s

/-- A chatter window closes: the points are judged in ascending field line (R28). -/
def State.closeWindow (s : State) : State := allLines.foldl State.judgeLine s

/-! ### Buttons -/

/-- The samples of a button's debounce, on both edges (R117). -/
def buttonDebounce : Nat := 10

/-- An accepted change of a button's level (R117). -/
inductive ButtonEvent where
  | press (b : Button)
  | release (b : Button)
  deriving DecidableEq, Repr

/-- A button's debouncer meets a sampled level (R117): its record after, and whether the level was accepted. -/
def ButtonRec.sample (r : ButtonRec) (pressed : Bool) : ButtonRec × Bool :=
  if pressed = r.pressed then ({ r with run := 0 }, false)
  else if r.run + 1 < buttonDebounce then ({ r with run := r.run + 1 }, false)
  else ({ r with pressed := pressed, run := 0 }, true)

/-- The four button debouncers meet a sample in the order ACKn, SILn, RSTn, TSTn, and the events they give (R118). A low
pin reads pressed. -/
def State.sampleButton (pins : BitVec 4) (acc : State × List ButtonEvent) (b : Button) : State × List ButtonEvent :=
  let pressed := !pins.getLsbD b.idx.val
  let out := (acc.1.button b).sample pressed
  (acc.1.setButton b out.1, if out.2 then acc.2 ++ [if pressed then .press b else .release b] else acc.2)

/-- The buttons in the input unit's order (R118). -/
def buttonOrder : List Button := [.ack, .sil, .rst, .tst]

/-- The action of an unlocked accepted press (R119). -/
def State.buttonAction (s : State) : Button → State
  | .ack => (s.actOn .ack allPoints).1
  | .sil => s.silenceAll
  | .rst => (s.actOn .reset allPoints).1
  | .tst => s.beginButtonTest

/-- An accepted press: counted, BUTTON set, and acted on unless the button is locked (R119). -/
def State.takePress (s : State) (b : Button) : State :=
  let r := s.button b
  let s := (s.setButton b { r with presses := r.presses + 1#8 }).setCause .button
  if s.locked b then s else s.buttonAction b

/-- An accepted release: of TSTn, it ends a button test that is in force (R120). -/
def State.takeRelease (s : State) (b : Button) : State := if b = .tst then s.endButtonTest else s

/-- A button event reaches the operator unit. -/
def State.takeButtonEvent (s : State) : ButtonEvent → State
  | .press b => s.takePress b
  | .release b => s.takeRelease b

/-- The lines of a sample in ascending order, with the sample's button events in their own order before, between or after
the line deliveries: which, is left open by R118, and is a free value (DESIGN CHOICE, log entry 5). -/
def State.runSample : List LineNo → List ButtonEvent → State → State
  | [], es, s => es.foldl State.takeButtonEvent s
  | k :: ks, [], s => State.runSample ks [] (s.sampleLine k)
  | k :: ks, e :: es, s =>
    let n := Config.buttonEventsBefore s.orderIndex
    let s := ((e :: es).take n).foldl State.takeButtonEvent { s with orderIndex := s.orderIndex + 1 }
    State.runSample ks ((e :: es).drop n) (s.sampleLine k)

/-- A sample: the latest raw sample replaced, every debouncer run (R20). -/
def State.takeSample (s : State) (lines : BitVec 32) (pins : BitVec 4) : State :=
  let out := buttonOrder.foldl (State.sampleButton pins) ({ s with lines := lines }, [])
  State.runSample allLines out.2 out.1

/-! ### Commands -/

/-- SET CHATTER LIMIT (R25). -/
def State.setChatterLimit (limit : Byte) (s : State) : State × Answer :=
  match chatterLimit? limit with
  | none => refuse .badValue s
  | some n => accept { s with chatterLimit := n } []

/-- The four data bytes of READ LINES: byte k holds FI8k in bit 0 to FI8k+7 in bit 7 (R35, E.8). -/
def State.linesData (s : State) : List Byte :=
  [s.lines.extractLsb' 0 8, s.lines.extractLsb' 8 8, s.lines.extractLsb' 16 8, s.lines.extractLsb' 24 8]

/-- SET BUTTON LOCK: the whole mask replaced; locking TSTn ends a button test in force (R121). -/
def State.setButtonLock (mask : Byte) (s : State) : State × Answer :=
  match lockMask? mask with
  | none => refuse .badValue s
  | some m =>
    let s := { s with lockMask := m }
    accept (if s.locked .tst then s.endButtonTest else s) []

/-- The six data bytes of READ BUTTONS (R123, E.8). -/
def State.buttonsData (s : State) : List Byte :=
  [bits8 false false false false (s.button .tst).pressed (s.button .rst).pressed (s.button .sil).pressed
     (s.button .ack).pressed,
   s.lockMask.setWidth 8, (s.button .ack).presses, (s.button .sil).presses, (s.button .rst).presses,
   (s.button .tst).presses]

/-! ### The rows -/

/-- SAMPLE (R20 to R27, R117 to R120). -/
def execSample (lines : BitVec 32) (buttons : BitVec 4) (s : State) : Host.Outcome State Fault Refusal :=
  .next (s.takeSample lines buttons)

/-- READ_LINES (R35). -/
def execReadLines (s : State) : Host.Outcome State Fault Refusal :=
  hostCommand .readLines (fun s => accept s s.linesData) s

/-- SET_CHATTER_LIMIT (R25). -/
def execSetChatterLimit (limit : Byte) (s : State) : Host.Outcome State Fault Refusal :=
  hostCommand (.setChatterLimit limit) (State.setChatterLimit limit) s

/-- SET_BUTTON_LOCK (R121). -/
def execSetButtonLock (mask : Byte) (s : State) : Host.Outcome State Fault Refusal :=
  hostCommand (.setButtonLock mask) (State.setButtonLock mask) s

/-- READ_BUTTONS (R123). -/
def execReadButtons (s : State) : Host.Outcome State Fault Refusal :=
  hostCommand .readButtons (fun s => accept s s.buttonsData) s

end Sys2Proof.Machine
end

