-- ==== Sys2Proof/Machine/Timebase.lean ====
section
/-!
DEFINITION. The timebase and the attention unit's commands (09_timebase_and_attention.md): TICK with the two tick timers,
SECOND_TICK with the shelf countdown, WINDOW_BOUNDARY, SHELF_EXPIRY, the timer expiries, and READ UPTIME, READ CAUSES,
CLEAR CAUSES and SET CAUSE ENABLES.
-/

namespace Sys2Proof.Machine

/-! ### The tick (R152, R126, R147) -/

/-- A tick begins: the period count passes to 0 (DEDUCED, log entry 12) and the tick count moves (R152). A second tick that was taken whole is
over (DESIGN CHOICE, log entry 4). -/
def State.beginTick (s : State) : State :=
  { s with
    periodCount := 0
    tickCount := s.tickCount + 1
    second := if s.second = .taken then .notBegun else s.second }

/-- The chime timer at a tick (R126). -/
def State.tickChime (s : State) : State := { s with chimeTimer := s.chimeTimer - 1 }

/-- The host test timer at a tick: the tick at which it reaches 0 stops it, and the host source ceases (R147). -/
def State.tickHostTest (s : State) : State :=
  if 1 < s.hostTimer then { s with hostTimer := s.hostTimer - 1 } else s.stopHostTest

/-! ### The second tick (R109, R154) -/

/-- The second tick's own first effect, the uptime increase, unless it has been taken already (R154, DESIGN CHOICE, log entry 4). -/
def State.beginSecond (s : State) : State :=
  if s.second = .begun then s else { s.increaseUptime with second := .begun }

/-- Every used slot has one second fewer (R109). -/
def State.countDown (s : State) : State :=
  allSlots.foldl
    (fun s k => s.setSlot k ((s.slot k).map fun r => { r with remaining := r.remaining - 1 })) s

/-- A slot whose remaining seconds have become 0 expires (R109, R110). -/
def State.expireIfDue (s : State) (k : SlotNo) : State :=
  match s.slot k with
  | some r => if r.remaining = 0 then s.expireSlot k else s
  | none => s

/-- The shelf unit's part of the second tick: the countdown, then the expiries in ascending slot number (R109). -/
def State.shelfSecond (s : State) : State := allSlots.foldl State.expireIfDue s.countDown

/-- SECOND_TICK whole. -/
def State.takeSecond (s : State) : State := { s.beginSecond.shelfSecond with second := .taken }

/-- Whether the second tick not yet begun makes the uptime a multiple of 10 (R28). -/
def State.nextIsBoundary (s : State) : Bool :=
  s.second == .notBegun && decide (s.uptime < uptimeMax) && (s.uptime + 1) % 10 == 0

/-- A chatter window closes at the second tick at which the uptime becomes a multiple of 10 (R28); the boundary may be
taken ahead of the rest of that second tick, and then the uptime increase comes first (R154, DESIGN CHOICE, log entry 4). -/
def State.takeBoundary (s : State) : State :=
  if s.nextIsBoundary then s.beginSecond.closeWindow
  else if s.uptime ≠ 0 ∧ s.uptime % 10 = 0 then s.closeWindow
  else s

/-- The lowest-numbered slot that the next countdown takes to 0 (R109). -/
def State.slotDue (s : State) : Option SlotNo :=
  allSlots.find? fun k => match s.slot k with | some r => decide (r.remaining ≤ 1) | none => false

/-- An expiry taken ahead of the rest of its second tick (R110, DESIGN CHOICE, log entry 4): the uptime increase comes first. After a
SECOND_TICK, which takes every expiry of its second (R109), none is left. -/
def State.expireAhead (s : State) : State :=
  if s.second = .taken then s
  else match s.slotDue with
    | some k => s.beginSecond.expireSlot k
    | none => s

/-! ### Attention commands (R158, R159) -/

/-- CLEAR CAUSES: the causes as they stood, then the marked ones cleared (R158). -/
def State.clearCauses (mask : Byte) (s : State) : State × Answer :=
  accept { s with causes := s.causes &&& ~~~mask }.refreshAttn [s.causes]

/-- SET CAUSE ENABLES (R159). -/
def State.setCauseEnables (enables : Byte) (s : State) : State × Answer :=
  accept { s with enables := enables }.refreshAttn []

/-! ### The rows -/

/-- TICK (R152, R126, R147). -/
def execTick (s : State) : Host.Outcome State Fault Refusal := .next s.beginTick.tickChime.tickHostTest

/-- SECOND_TICK (R154, R109, R110). -/
def execSecondTick (s : State) : Host.Outcome State Fault Refusal := .next s.takeSecond

/-- WINDOW_BOUNDARY (R28, R29). -/
def execWindowBoundary (s : State) : Host.Outcome State Fault Refusal := .next s.takeBoundary

/-- SHELF_EXPIRY (R110). -/
def execShelfExpiry (s : State) : Host.Outcome State Fault Refusal := .next s.expireAhead

/-- CHIME_TIMER_EXPIRY: a timer at its last tick reaches 0 and CHIME becomes inactive (R126, DEDUCED, log entry 3). -/
def execChimeTimerExpiry (s : State) : Host.Outcome State Fault Refusal :=
  .next (if s.chimeTimer = 1 then s.tickChime else s)

/-- HOST_TEST_TIMER_EXPIRY: a timer at its last tick reaches 0 and the host source ceases (R147, DEDUCED, log entry 3). -/
def execHostTestTimerExpiry (s : State) : Host.Outcome State Fault Refusal :=
  .next (if s.hostTimer = 1 then s.tickHostTest else s)

/-- READ_UPTIME (R155). -/
def execReadUptime (s : State) : Host.Outcome State Fault Refusal :=
  hostCommand .readUptime (fun s => accept s (bytes4 s.uptime)) s

/-- READ_CAUSES (R158). -/
def execReadCauses (s : State) : Host.Outcome State Fault Refusal :=
  hostCommand .readCauses (fun s => accept s [s.causes]) s

/-- CLEAR_CAUSES (R158). -/
def execClearCauses (mask : Byte) (s : State) : Host.Outcome State Fault Refusal :=
  hostCommand (.clearCauses mask) (State.clearCauses mask) s

/-- SET_CAUSE_ENABLES (R159). -/
def execSetCauseEnables (enables : Byte) (s : State) : Host.Outcome State Fault Refusal :=
  hostCommand (.setCauseEnables enables) (State.setCauseEnables enables) s

end Sys2Proof.Machine
end

