-- ==== Sys2Proof/Machine/Dispatch.lean ====
section
/-!
DEFINITION. The meaning of every command: one arm per row of spec/opcode_table.json.
-/

namespace Sys2Proof.Machine

/-- The effect of a command on everything but the queue. -/
def exec (i : Instr) (s : State) : Host.Outcome State Fault Refusal :=
  match i with
  | .hardReset csLow => Sys2Proof.Machine.execHardReset csLow s
  | .tick => Sys2Proof.Machine.execTick s
  | .sample lines buttons => Sys2Proof.Machine.execSample lines buttons s
  | .frameStart => Sys2Proof.Machine.execFrameStart s
  | .secondTick => Sys2Proof.Machine.execSecondTick s
  | .windowBoundary => Sys2Proof.Machine.execWindowBoundary s
  | .shelfExpiry => Sys2Proof.Machine.execShelfExpiry s
  | .chimeTimerExpiry => Sys2Proof.Machine.execChimeTimerExpiry s
  | .hostTestTimerExpiry => Sys2Proof.Machine.execHostTestTimerExpiry s
  | .flashPhaseAdvance => Sys2Proof.Machine.execFlashPhaseAdvance s
  | .swap => Sys2Proof.Machine.execSwap s
  | .brightnessIntoForce => Sys2Proof.Machine.execBrightnessIntoForce s
  | .shortTransaction bytes => Sys2Proof.Machine.execShortTransaction bytes s
  | .unknownCommand code => Sys2Proof.Machine.execUnknownCommand code s
  | .definePoint point source options debounce => Sys2Proof.Machine.execDefinePoint point source options debounce s
  | .placeInService point => Sys2Proof.Machine.execPlaceInService point s
  | .removeFromService point => Sys2Proof.Machine.execRemoveFromService point s
  | .setClass point cls => Sys2Proof.Machine.execSetClass point cls s
  | .readPoint point => Sys2Proof.Machine.execReadPoint point s
  | .setCondition point condition => Sys2Proof.Machine.execSetCondition point condition s
  | .readLines => Sys2Proof.Machine.execReadLines s
  | .acknowledge scope => Sys2Proof.Machine.execAcknowledge scope s
  | .silence => Sys2Proof.Machine.execSilence s
  | .resetPoints scope => Sys2Proof.Machine.execResetPoints scope s
  | .setClassOptions cls options => Sys2Proof.Machine.execSetClassOptions cls options s
  | .setGroupOptions group options => Sys2Proof.Machine.execSetGroupOptions group options s
  | .readGroup group => Sys2Proof.Machine.execReadGroup group s
  | .setChatterLimit limit => Sys2Proof.Machine.execSetChatterLimit limit s
  | .listTop => Sys2Proof.Machine.execListTop s
  | .listSeek point => Sys2Proof.Machine.execListSeek point s
  | .readEntry => Sys2Proof.Machine.execReadEntry s
  | .listMark => Sys2Proof.Machine.execListMark s
  | .listReturn => Sys2Proof.Machine.execListReturn s
  | .readListSummary => Sys2Proof.Machine.execReadListSummary s
  | .shelve point minutesHigh minutesLow => Sys2Proof.Machine.execShelve point minutesHigh minutesLow s
  | .unshelve point => Sys2Proof.Machine.execUnshelve point s
  | .readShelfSlot slot => Sys2Proof.Machine.execReadShelfSlot slot s
  | .writeWindow window entry => Sys2Proof.Machine.execWriteWindow window entry s
  | .readWindow bank window => Sys2Proof.Machine.execReadWindow bank window s
  | .swapBanks => Sys2Proof.Machine.execSwapBanks s
  | .copyLiveToStaging => Sys2Proof.Machine.execCopyLiveToStaging s
  | .setBrightness brightness => Sys2Proof.Machine.execSetBrightness brightness s
  | .setPanel enable => Sys2Proof.Machine.execSetPanel enable s
  | .lampTest value => Sys2Proof.Machine.execLampTest value s
  | .readPanel => Sys2Proof.Machine.execReadPanel s
  | .readCauses => Sys2Proof.Machine.execReadCauses s
  | .clearCauses mask => Sys2Proof.Machine.execClearCauses mask s
  | .setCauseEnables enables => Sys2Proof.Machine.execSetCauseEnables enables s
  | .setButtonLock mask => Sys2Proof.Machine.execSetButtonLock mask s
  | .readButtons => Sys2Proof.Machine.execReadButtons s
  | .readUptime => Sys2Proof.Machine.execReadUptime s
  | .softReset => Sys2Proof.Machine.execSoftReset s
  | .transactionBegin => Sys2Proof.Machine.execTransactionBegin s
  | .transactionEnd => Sys2Proof.Machine.execTransactionEnd s

end Sys2Proof.Machine
end

