-- ==== Sys2Proof/Safety.lean ====
section
/-!
DEFINITION. The laws the spec says the AC48's units keep, as properties of a state, and the invariant they make together.
Each is named by the rule that states it.
-/

namespace Sys2Proof.Machine

/-! ### The laws -/

/-- R81: a point is on the standing list if and only if it is in service, not shelved, and not QUIET; R82: the list never
holds the same point twice. -/
abbrev State.ListedLaw (s : State) : Prop :=
  (∀ p, p ∈ s.standing ↔
    (s.point p).inService = true ∧ (s.point p).shelf = none ∧ (s.point p).state ≠ .quiet) ∧ s.standing.Nodup

/-- R83: the class of each entry is never higher-numbered than the class of an entry after it. -/
abbrev State.ClassOrderLaw (s : State) : Prop :=
  s.standing.Pairwise fun p q => (s.point p).cls ≤ (s.point q).cls

/-- R96: the cursor names an entry present on the list, or END; a mark of ENTRY names an entry present on the list. -/
abbrev State.CursorLaw (s : State) : Prop :=
  (∀ p, s.cursor = some p → p ∈ s.standing) ∧ (∀ p, s.mark = .entry p → p ∈ s.standing)

/-- R3, R6, R15: the live fields of an out-of-service point; its run count is held as 0 (DESIGN CHOICE, log entry 15). -/
abbrev PointRec.OutOfServiceLaw (r : PointRec) : Prop :=
  r.inService = false → r.line = .normal ∧ r.eff = .normal ∧ r.state = .quiet ∧ r.shelf = none ∧ r.sounding = false ∧
    r.chatterCount = 0 ∧ r.lockout = false ∧ r.repeatCount = 0 ∧ r.entryTime = none ∧ r.lastChange = none ∧ r.run = 0

/-- R3, R21: the effective condition equals the line condition, except that it is OFF-NORMAL under a lockout; a HOST point
has no debouncer, no chatter count and no lockout, and its run count is held as 0 (DESIGN CHOICE, log entry 15). -/
abbrev PointRec.ConditionLaw (r : PointRec) : Prop :=
  (r.lockout = true → r.eff = .offNormal) ∧ (r.lockout = false → r.eff = r.line) ∧
    (r.source = .host → r.chatterCount = 0 ∧ r.lockout = false ∧ r.run = 0)

/-- R37: the states each sequence type takes, and the state of an in-service, unshelved point in step with its effective
condition; R107: a shelved point is QUIET with its flag clear. -/
abbrev PointRec.StateLaw (r : PointRec) : Prop :=
  (r.seqType = .status → r.state = .quiet ∨ r.state = .alarmAcked) ∧
  (r.seqType = .selfClearing → r.state ≠ .ringback) ∧
  (r.inService = true → r.shelf = none →
    (r.eff = .offNormal ↔ r.state = .alarmNew ∨ r.state = .alarmAcked)) ∧
  (r.shelf ≠ none → r.state = .quiet ∧ r.sounding = false)

/-- R39: the sounding flag is set only in ALARM-NEW or CLEARED-NEW, and not for a STATUS point. -/
abbrev PointRec.SoundingLaw (r : PointRec) : Prop :=
  r.sounding = true → (r.state = .alarmNew ∨ r.state = .clearedNew) ∧ r.seqType ≠ .status

/-- R1, R21, R24, R40: the ranges of the counted fields. -/
abbrev PointRec.RangeLaw (r : PointRec) : Prop :=
  1 ≤ r.debounce ∧ r.debounce ≤ 250 ∧ r.run < r.debounce ∧ r.chatterCount ≤ 15 ∧ r.repeatCount ≤ 255

/-- R4: the entry time is present exactly while the point is listed, and no recorded time is later than the uptime. -/
abbrev State.TimesLaw (s : State) : Prop :=
  ∀ p, ((s.point p).entryTime.isSome = true ↔ p ∈ s.standing) ∧
    (∀ t, (s.point p).entryTime = some t → t ≤ s.uptime) ∧ (∀ t, (s.point p).lastChange = some t → t ≤ s.uptime)

/-- R11: no two in-service points have the same field line as their source. -/
abbrev State.LineLaw (s : State) : Prop :=
  ∀ p q, (s.point p).inService = true → (s.point q).inService = true → (s.point p).source ≠ .host →
    (s.point p).source = (s.point q).source → p = q

/-- R103, R104: each used slot holds exactly one shelved point, with 1 to 86400 seconds left, and each shelved point holds
exactly one slot. -/
abbrev State.ShelfLaw (s : State) : Prop :=
  (∀ k r, s.slot k = some r → (s.point r.point).shelf = some k ∧ 1 ≤ r.remaining ∧ r.remaining ≤ 86400) ∧
  (∀ p k, (s.point p).shelf = some k → (s.slot k).any (fun r => r.point == p) = true)

/-- R68, R70, R71: OFF stands exactly while the option is off; with the option on, ARMED stands exactly while the group is
quiet; a HELD group names one of its own members, in service and not shelved. -/
abbrev State.GroupLaw (s : State) : Prop :=
  ∀ g, ((s.groupRec g).option = false ↔ (s.groupRec g).firstOut = .off) ∧
    ((s.groupRec g).option = true → ((s.groupRec g).firstOut = .armed ↔ s.groupQuiet g = true)) ∧
    (∀ p, (s.groupRec g).firstOut = .held p →
      (s.point p).group = g ∧ (s.point p).inService = true ∧ (s.point p).shelf = none)

/-- R125: HORN is active if and only if some sounding point's class has horn enabled. -/
abbrev State.HornLaw (s : State) : Prop :=
  s.horn = true ↔ ∃ p, (s.point p).sounding = true ∧ (s.classOption (s.point p).cls).horn = true

/-- R160: ATTNn is asserted if and only if some cause is both pending and enabled. -/
abbrev State.AttnLaw (s : State) : Prop :=
  s.attn = true ↔ ∃ i : Fin 8, s.causes.getLsbD i.val = true ∧ s.enables.getLsbD i.val = true

/-- R117, R120, R121: the button run counts; a button test in force is held by an accepted press of an unlocked TSTn. -/
abbrev State.ButtonLaw (s : State) : Prop :=
  (∀ i : Fin 4, s.buttons[i].run ≤ 9) ∧
  (s.buttonTest = true → (s.button .tst).pressed = true ∧ s.locked .tst = false)

/-- The ranges of the device's counts: R25, R126, R144, R147, R154. -/
abbrev State.DeviceRangeLaw (s : State) : Prop :=
  s.uptime ≤ 0xFFFFFFFE ∧ (s.chatterLimit = 0 ∨ 2 ≤ s.chatterLimit) ∧ s.chatterLimit ≤ 15 ∧ s.chimeTimer ≤ 500 ∧
    s.hostTimer ≤ 5000 ∧ 1 ≤ s.reqBrightness ∧ s.reqBrightness ≤ 16 ∧ 1 ≤ s.brightness ∧ s.brightness ≤ 16

/-- R162 to R169: what the link holds in each phase of a transaction. No byte is counted until the command is taken, at which
all of them are (DESIGN CHOICE, log entry 9). -/
abbrev State.LinkLaw (s : State) : Prop :=
  (s.link.phase = .receiving → s.link.status.isSome = true ∧ s.link.answer = none ∧ s.link.bytes = 0) ∧
  (s.link.phase = .taken → s.link.status.isSome = true ∧
    s.link.bytes = s.link.params.length + 1 ∧ s.link.command.isSome = true ∧
    s.link.answer.any (fun a => a.result.setsLastErr == s.link.lastErr) = true) ∧
  (s.link.phase = .idle ∨ s.link.phase = .ignored → s.link.bytes = 0 ∧ s.link.command = none ∧ s.link.params = [])

/-! ### Together -/

/-- The laws of every point record. -/
abbrev State.RecordLaws (s : State) : Prop :=
  (∀ p, (s.point p).OutOfServiceLaw) ∧ (∀ p, (s.point p).ConditionLaw) ∧ (∀ p, (s.point p).StateLaw) ∧
    (∀ p, (s.point p).SoundingLaw) ∧ (∀ p, (s.point p).RangeLaw)

/-- The laws of the annunciation: point records, list, times, cursor, lines, shelf and groups. -/
abbrev State.AnnunciationLaws (s : State) : Prop :=
  s.RecordLaws ∧ s.ListedLaw ∧ s.ClassOrderLaw ∧ s.CursorLaw ∧ s.TimesLaw ∧ s.LineLaw ∧ s.ShelfLaw ∧ s.GroupLaw ∧
    s.uptime ≤ 0xFFFFFFFE

/-- Every law the spec states of a state. -/
abbrev State.Inv (s : State) : Prop :=
  s.AnnunciationLaws ∧ s.HornLaw ∧ s.AttnLaw ∧ s.ButtonLaw ∧ s.DeviceRangeLaw ∧ s.LinkLaw

end Sys2Proof.Machine
end

