-- ==== Sys2Proof/Outcomes.lean ====
section
/-!
DEFINITION. The outcomes the spec's rules give, in closed form: what a rule says stands after a happening, written over
the state before it and apart from the operations of Machine/. The statements compare `exec` with these.
-/

namespace Sys2Proof

/-! ### Rows of the host link -/

/-- The row is a command of the host link's catalogue, or an unknown one: it is taken and answered (R163, R170). -/
abbrev Instr.isHostCommand (c : Instr) : Prop := c.mosiBytes ≠ none

/-- The number of data bytes that follow an OK (the catalogue of section D). -/
def Instr.dataCount : Instr → Nat
  | .readPoint _ => 16
  | .readLines => 4
  | .acknowledge _ => 1
  | .silence => 1
  | .resetPoints _ => 1
  | .readGroup _ => 7
  | .readEntry => 10
  | .readListSummary => 9
  | .readShelfSlot _ => 5
  | .readWindow _ _ => 1
  | .readPanel => 6
  | .readCauses => 1
  | .clearCauses _ => 1
  | .readButtons => 6
  | .readUptime => 4
  | .hardReset _ | .tick | .sample _ _ | .frameStart | .secondTick | .windowBoundary | .shelfExpiry
  | .chimeTimerExpiry | .hostTestTimerExpiry | .flashPhaseAdvance | .swap | .brightnessIntoForce
  | .shortTransaction _ | .unknownCommand _ | .definePoint _ _ _ _ | .placeInService _ | .removeFromService _
  | .setClass _ _ | .setCondition _ _ | .setClassOptions _ _ | .setGroupOptions _ _ | .setChatterLimit _ | .listTop
  | .listSeek _ | .listMark | .listReturn | .shelve _ _ _ | .unshelve _ | .writeWindow _ _ | .swapBanks
  | .copyLiveToStaging | .setBrightness _ | .setPanel _ | .lampTest _ | .setCauseEnables _ | .setButtonLock _
  | .softReset | .transactionBegin | .transactionEnd => 0

end Sys2Proof

namespace Sys2Proof.Machine

/-! ### The host link around a command (R162 to R167) -/

/-- A command can be taken: no transaction is in progress, or one is whose command is not taken yet (R163). -/
abbrev State.Ready (s : State) : Prop := s.link.phase = .idle ∨ s.link.phase = .receiving

/-- What the host link holds once `c` has been answered. In a transaction: the command's bytes counted, the status byte of
its beginning kept, the answer prepared, and LASTERR by the result (R162, R163, R167). Sent on its own: the whole
transaction is over, and its status byte was composed from the state before the command (R168, DESIGN CHOICE, log entry 7). -/
def State.answered (s : State) (c : Instr) (r : Result) (data : List Byte) : Link :=
  let sent := c.mosiBytes.getD []
  match s.link.phase with
  | .receiving =>
    { phase := .taken, bytes := sent.length, command := sent.head?, params := sent.tail, status := s.link.status,
      answer := some ⟨r, data⟩, lastErr := r.setsLastErr }
  | .idle | .taken | .ignored =>
    { phase := .idle, bytes := 0, command := none, params := [], status := some s.statusByte,
      answer := some ⟨r, data⟩, lastErr := r.setsLastErr }

/-! ### Numbers in bytes (R172, E.4, E.5) -/

/-- The number that bytes hold, most significant byte first (R172). -/
def numberOf (bytes : List Byte) : Nat := bytes.foldl (fun n b => n * 256 + b.toNat) 0

/-- The bits of a byte, the most significant first (R162). -/
def msbFirst (b : Byte) : List Bool := (List.finRange 8).map fun i => b.getMsbD i.val

/-- The value of a scope byte (E.5). -/
def Scope.byteValue : Scope → Nat
  | .point p => p.val
  | .group g => 64 + g.val
  | .all => 128

/-- The value of a window entry's byte (E.5). -/
def WindowEntry.byteValue : WindowEntry → Nat
  | .unbound => 0
  | .point p => 64 + p.val
  | .group g => 128 + g.val

/-- The value of a source byte (E.4). -/
def Source.byteValue : Source → Nat
  | .line k => k.val
  | .host => 0x80

/-- The value of an options byte of a point: polarity, sequence type, class, group (E.4). -/
def PointConfig.optionsValue (c : PointConfig) : Nat :=
  (if c.polarity = .whenOpen then 128 else 0) + 32 * c.seqType.code + 8 * c.cls.val + c.group.val

/-! ### Causes and levels -/

/-- The causes of `bits` set pending, with ATTNn at the level R160 gives where any is set (R157, R160). -/
def State.withCauses (s : State) (bits : Byte) : State :=
  { s with
    causes := s.causes ||| bits
    attn := if bits = 0#8 then s.attn else ((s.causes ||| bits) &&& s.enables) != 0#8 }

/-- Some sounding point of `points` is in a horn-enabled class (R125). -/
def State.hornWith (s : State) (points : Vector PointRec 48) : Bool :=
  (List.finRange 48).any fun p => points[p].sounding && s.classOptions[points[p].cls].horn

/-! ### A change of state (R41) -/

/-- The state an off-normal notice brings (R42, R43, R44). -/
def SeqType.offNormalState : SeqType → AnnState
  | .latching | .selfClearing => .alarmNew
  | .status => .alarmAcked

/-- The state a normal notice brings to an off-normal point: CLEARED-NEW before acknowledgement; after it, RINGBACK for a
LATCHING point and QUIET for the others (R42, R43, R44). -/
def PointRec.normalState (r : PointRec) : AnnState :=
  if r.state = .alarmNew then .clearedNew else if r.seqType = .latching then .ringback else .quiet

/-- The state an ACK brings, where it changes the state (R42, R43, R44, R50). -/
def PointRec.ackState (r : PointRec) : Option AnnState :=
  if r.seqType = .status then none
  else if r.state = .alarmNew then some .alarmAcked
  else if r.state = .clearedNew then some (if r.seqType = .latching then .ringback else .quiet)
  else none

/-- The state a RESET brings, where it changes the state (R42, R43, R44, R51). -/
def PointRec.resetState (r : PointRec) : Option AnnState :=
  if r.seqType = .latching ∧ r.state = .ringback then some .quiet else none

/-- The record of a point whose state changes to `d` at uptime `now`: times, sounding flag and repeat count (R4, R39, R40,
steps 1 and 2 of R41). -/
def PointRec.entered (r : PointRec) (d : AnnState) (now : Nat) : PointRec :=
  { r with
    state := d
    lastChange := some now
    sounding := d == .alarmNew || (d == .clearedNew && r.sounding)
    repeatCount :=
      if r.state = .quiet then 0 else if d = .alarmNew then min 255 (r.repeatCount + 1) else r.repeatCount
    entryTime := if d = .quiet then none else if r.state = .quiet then some now else r.entryTime }

/-- `p` at the end of the segment of class `c`: after every entry of an equal or lower class number (R84, R86). -/
def State.endOfClass (s : State) (p : PointNo) (c : ClassNo) (entries : List PointNo) : List PointNo :=
  entries.filter (fun q => decide ((s.point q).cls ≤ c)) ++ p :: entries.filter (fun q => decide (c < (s.point q).cls))

/-- The entries without that of `p` (R85). -/
def withoutEntry (p : PointNo) (entries : List PointNo) : List PointNo := entries.filter fun q => decide (q ≠ p)

/-- The entry that follows that of `p`, or END (R85, R92). -/
def entryAfter (p : PointNo) (entries : List PointNo) : Option PointNo :=
  ((entries.dropWhile fun q => decide (q ≠ p)).drop 1).head?

/-- Group `g` is quiet with `entries` on the list (R69). -/
def State.quietWith (s : State) (g : GroupNo) (entries : List PointNo) : Bool :=
  entries.all fun q => decide ((s.point q).group ≠ g ∨ (s.point q).seqType = .status)

/-- What a change of the state of `p` to `d` leaves: the record; the list, LGEN, cursor and mark where the point has left
or entered QUIET; its group's first-out; HORN, the chime and the causes (R41, R70, R84, R85, R87, R126, R55). -/
def State.changedTo (s : State) (p : PointNo) (d : AnnState) : State :=
  let r := s.point p
  let points := s.points.set p (r.entered d s.uptime)
  let arrives : Bool := r.state == .quiet
  let leaves : Bool := d == .quiet
  let standing :=
    if arrives then s.endOfClass p r.cls s.standing else if leaves then withoutEntry p s.standing else s.standing
  let f := (s.groupRec r.group).firstOut
  let firstOut :=
    if arrives ∧ d = .alarmNew ∧ f = .armed then .held p
    else if leaves ∧ s.quietWith r.group standing ∧ f ≠ .off then .armed
    else f
  { s with
    points := points
    standing := standing
    lgen := if arrives ∨ leaves then s.lgen + 1#16 else s.lgen
    cursor := if leaves ∧ s.cursor = some p then entryAfter p s.standing else s.cursor
    mark := if leaves ∧ s.mark = Mark.entry p then .lost else s.mark
    groups := s.groups.set r.group { s.groupRec r.group with firstOut := firstOut }
    horn := if (r.entered d s.uptime).sounding = r.sounding then s.horn else s.hornWith points
    chimeTimer :=
      if (d = AnnState.clearedNew ∨ d = AnnState.ringback) ∧ (s.classOption r.cls).chime then 500 else s.chimeTimer }.withCauses
    ((if arrives ∨ leaves then 0x20#8 else 0#8) ||| (if d = AnnState.alarmNew then 0x01#8 else 0#8) |||
      (if d = AnnState.clearedNew ∨ d = AnnState.ringback then 0x02#8 else 0#8))

/-- A point that has just come in reach of the sequence: it arrives if its effective condition is OFF-NORMAL and stays
QUIET otherwise (R13, R65, R66). -/
def State.arrived (s : State) (p : PointNo) : State :=
  if (s.point p).eff = .offNormal then s.changedTo p (s.point p).seqType.offNormalState else s

/-- A notice of condition `c` has been delivered to `p`, whose effective condition is then `c`; a shelved point's sequence
stays as it is (R23, R45, R53). -/
def State.delivered (s : State) (p : PointNo) (c : Condition) : State :=
  let r := s.point p
  let s := { s with points := s.points.set p { r with eff := c } }
  if r.shelf ≠ none then s
  else match c with
    | .offNormal => s.changedTo p r.seqType.offNormalState
    | .normal => s.changedTo p r.normalState

/-- An action taken at the points of `ps` one after the other, where `dest` gives the state it brings (R49). -/
def State.actedOn (s : State) (dest : PointRec → Option AnnState) (ps : List PointNo) : State :=
  ps.foldl (fun s p => match dest (s.point p) with | some d => s.changedTo p d | none => s) s

/-- The points a scope covers (R47). -/
def State.covered (s : State) (sc : Scope) : List PointNo :=
  match sc with
  | .point p => [p]
  | .group g => (List.finRange 48).filter fun p => decide ((s.point p).group = g)
  | .all => List.finRange 48

/-- How many points of `ps` the action changes (R50, R51). -/
def State.changeCount (s : State) (dest : PointRec → Option AnnState) (ps : List PointNo) : Nat :=
  ps.countP fun p => (dest (s.point p)).isSome

/-- Every sounding flag clear, and so HORN inactive (R46). -/
def State.silenced (s : State) : State :=
  { s with points := s.points.map fun r => { r with sounding := false }, horn := false }

/-! ### Withdrawals: shelving and removal (R15, R64, R106) -/

/-- What withdrawing `p` leaves, its record and slots being `points` and `slots` after it: the entry gone, the group moved
by the shelve and removal rows of R70, HORN by the flags as they stand, LIST if an entry went. -/
def State.withdrawnWith (s : State) (p : PointNo) (points : Vector PointRec 48)
    (slots : Vector (Option SlotRec) 8) : State :=
  let g := (s.point p).group
  let standing := withoutEntry p s.standing
  let f := (s.groupRec g).firstOut
  let firstOut :=
    if f = .off then .off else if s.quietWith g standing then .armed else if f = .held p then .spent else f
  let listed : Bool := decide (p ∈ s.standing)
  { s with
    points := points
    slots := slots
    standing := standing
    lgen := if listed then s.lgen + 1#16 else s.lgen
    cursor := if s.cursor = some p then entryAfter p s.standing else s.cursor
    mark := if s.mark = Mark.entry p then .lost else s.mark
    groups := s.groups.set g { s.groupRec g with firstOut := firstOut }
    horn := s.hornWith points }.withCauses (if listed then 0x20#8 else 0#8)

/-- REMOVE FROM SERVICE carried out (R15): the record keeps its configuration and takes the values of an unused point,
with run count 0 (DESIGN CHOICE, log entry 15). -/
def State.removed (s : State) (p : PointNo) : State :=
  let r := s.point p
  s.withdrawnWith p
    (s.points.set p
      { toPointConfig := r.toPointConfig, inService := false, line := .normal, eff := .normal, state := .quiet,
        shelf := none, sounding := false, chatterCount := 0, lockout := false, repeatCount := 0, entryTime := none,
        lastChange := none, run := 0 })
    (match r.shelf with | some k => s.slots.set k none | none => s.slots)

/-- SHELVE carried out: slot `k` taken for `p` with `seconds` remaining, and the point forced QUIET (R64, R106). -/
def State.shelved (s : State) (p : PointNo) (k : SlotNo) (seconds : Nat) : State :=
  let r := s.point p
  s.withdrawnWith p
    (s.points.set p
      { r with
        shelf := some k, state := .quiet, sounding := false, entryTime := none,
        lastChange := if r.state = .quiet then r.lastChange else some s.uptime })
    (s.slots.set k (some ⟨p, seconds⟩))

/-- Slot `k` freed and its point `p` off the shelf, arriving if off-normal (R65, R110, R111). -/
def State.unshelved (s : State) (p : PointNo) (k : SlotNo) : State :=
  { s with points := s.points.set p { s.point p with shelf := none }, slots := s.slots.set k none }.arrived p

/-- The expiry of slot `k`: its point off the shelf, then SHELF (R110). -/
def State.expired (s : State) (k : SlotNo) : State :=
  match s.slot k with
  | some r => (s.unshelved r.point k).withCauses 0x04#8
  | none => s

/-! ### Input unit (R22 to R29) -/

/-- The condition that line `k` of a sample reads through a polarity: a closed contact is low (R2). -/
def sampledCondition (lines : BitVec 32) (k : LineNo) (pol : Polarity) : Condition :=
  match pol, lines.getLsbD k.val with
  | .whenClosed, false => .offNormal
  | .whenClosed, true => .normal
  | .whenOpen, false => .normal
  | .whenOpen, true => .offNormal

/-- The points that have a debouncer, by ascending field line (R21, R23). -/
def State.debounced (s : State) : List PointNo :=
  (List.finRange 32).flatMap fun k =>
    (List.finRange 48).filter fun p => decide ((s.point p).inService = true ∧ (s.point p).source = .line k)

/-- The condition a sample reads for a point; a HOST point has none of its own, and keeps its line condition. -/
def State.sampledFor (s : State) (lines : BitVec 32) (p : PointNo) : Condition :=
  match (s.point p).source with
  | .line k => sampledCondition lines k (s.point p).polarity
  | .host => (s.point p).line

/-- A sampled condition contradicts the debouncer for the last time its debounce asks for: an accepted change (R22). -/
def PointRec.accepts (r : PointRec) (c : Condition) : Bool := decide (c ≠ r.line ∧ r.debounce ≤ r.run + 1)

/-- A point's input-unit fields after a sample that reads `c`, with `limit` the chatter limit (R22, R24, R26, R27). -/
def PointRec.sampled (r : PointRec) (limit : Nat) (c : Condition) : PointRec :=
  if r.accepts c then
    let n := min 15 (r.chatterCount + 1)
    let lockout : Bool := r.lockout || decide (limit ≠ 0 ∧ limit ≤ n)
    { r with line := c, run := 0, chatterCount := n, lockout := lockout, eff := if lockout then .offNormal else c }
  else { r with run := if c = r.line then 0 else r.run + 1 }

/-- A sample's condition for `p` dealt with whole: its fields, CHATTER if a lockout begins, and the delivery where its
effective condition changes (R22 to R27). -/
def State.dealtWith (s : State) (lines : BitVec 32) (p : PointNo) : State :=
  let r := s.point p
  let r' := r.sampled s.chatterLimit (s.sampledFor lines p)
  let s' := { s with points := s.points.set p { r' with eff := r.eff } }.withCauses
    (if r.lockout = false ∧ r'.lockout = true then 0x08#8 else 0#8)
  if r'.eff = r.eff then s' else s'.delivered p r'.eff

/-- A window boundary judges `p` (R28, R29). -/
def State.judged (s : State) (p : PointNo) : State :=
  let r := s.point p
  if r.lockout = true ∧ r.chatterCount = 0 then
    let s' := { s with points := s.points.set p { r with lockout := false } }.withCauses 0x08#8
    if r.line = .normal then s'.delivered p .normal else s'
  else { s with points := s.points.set p { r with chatterCount := 0 } }

/-- A chatter window closes: every point with a debouncer is judged, by ascending field line (R28). -/
def State.windowClosed (s : State) : State := s.debounced.foldl State.judged s

/-! ### Buttons (R117 to R120) -/

/-- A button's debouncer after a sample of its level (R117). -/
def ButtonRec.sampled (r : ButtonRec) (pressed : Bool) : ButtonRec :=
  if pressed = r.pressed then { r with run := 0 }
  else if r.run + 1 < 10 then { r with run := r.run + 1 }
  else { r with pressed := pressed, run := 0 }

/-- A sample accepts a change of a button's level (R117). -/
def ButtonRec.accepts (r : ButtonRec) (pressed : Bool) : Bool := decide (pressed ≠ r.pressed ∧ 10 ≤ r.run + 1)

/-- A pin of ACKn, SILn, RSTn, TSTn (bits 0 to 3) reads pressed: it is low (R117). -/
def pinPressed (pins : BitVec 4) (i : Fin 4) : Bool := !pins.getLsbD i.val

/-- The buttons whose level a sample accepts, in the input unit's order ACKn, SILn, RSTn, TSTn (R118). -/
def State.acceptedButtons (s : State) (pins : BitVec 4) : List (Fin 4) :=
  (List.finRange 4).filter fun i => s.buttons[i].accepts (pinPressed pins i)

/-- What an unlocked accepted press does: ACKn, SILn, RSTn, TSTn by number (R119, R120, R146). -/
def State.buttonDone (s : State) (i : Fin 4) : State :=
  if i = 0 then s.actedOn PointRec.ackState (List.finRange 48)
  else if i = 1 then s.silenced
  else if i = 2 then s.actedOn PointRec.resetState (List.finRange 48)
  else { s with buttonTest := true, chimeTimer := if s.buttonTest ∨ 0 < s.hostTimer then s.chimeTimer else 500 }

/-- An accepted press: counted modulo 256, BUTTON, and its action unless the button is locked (R119). -/
def State.pressDone (s : State) (i : Fin 4) : State :=
  let s := { s with
    buttons := s.buttons.set i { s.buttons[i] with presses := s.buttons[i].presses + 1#8 } }.withCauses 0x10#8
  if s.lockMask.getLsbD i.val then s else s.buttonDone i

/-- The button test has ended; with the host timer stopped the lamp test ends too, and TEST is set (R120, R146). -/
def State.testReleased (s : State) : State :=
  if s.buttonTest then { s with buttonTest := false }.withCauses (if s.hostTimer = 0 then 0x80#8 else 0#8) else s

/-- An accepted change of a button's level has been taken; the level is that which the debouncer already holds. -/
def State.buttonTaken (s : State) (i : Fin 4) : State :=
  if s.buttons[i].pressed then s.pressDone i else if i = 3 then s.testReleased else s

/-- One of the things a sample brings: the condition of a debounced point, or the accepted level of a button. -/
inductive SampleItem where
  | point (p : PointNo)
  | button (i : Fin 4)
  deriving DecidableEq, Repr

/-- A sample's item taken. -/
def State.itemTaken (lines : BitVec 32) (s : State) : SampleItem → State
  | .point p => s.dealtWith lines p
  | .button i => s.buttonTaken i

/-- The items of an order of things that are points. -/
def SampleItem.point? : SampleItem → Option PointNo
  | .point p => some p
  | .button _ => none

/-- The items of an order of things that are buttons. -/
def SampleItem.button? : SampleItem → Option (Fin 4)
  | .point _ => none
  | .button i => some i

/-- The latest raw sample and the button debouncers after a sample, before anything it brings is taken (R20, R117). -/
def State.read (s : State) (lines : BitVec 32) (pins : BitVec 4) : State :=
  { s with
    lines := lines
    buttons := #v[s.buttons[0].sampled (pinPressed pins 0), s.buttons[1].sampled (pinPressed pins 1),
      s.buttons[2].sampled (pinPressed pins 2), s.buttons[3].sampled (pinPressed pins 3)] }

/-! ### Second tick (R109, R154) -/

/-- The uptime after a second tick: it holds at FFFFFFFEH (R154). -/
def uptimeAfter (n : Nat) : Nat := min 0xFFFFFFFE (n + 1)

/-- The second tick's uptime increase and countdown (R154, R109). -/
def State.counted (s : State) : State :=
  { s with
    uptime := uptimeAfter s.uptime
    slots := s.slots.map fun o => o.map fun r => { r with remaining := r.remaining - 1 } }

/-- The slots at 0 expired, S0 first (R109). -/
def State.expiries (s : State) : State :=
  (List.finRange 8).foldl
    (fun s k => if (s.slot k).any (fun r => r.remaining == 0) then s.expired k else s) s

/-! ### Soft reset (R66) -/

/-- The first stage (R7, R34, R80, R102, R116, R129, R151, R161). -/
def State.cleared (s : State) : State :=
  { s with
    points := s.points.map fun r =>
      { r with
        state := .quiet, shelf := none, sounding := false, chatterCount := 0, lockout := false, repeatCount := 0,
        entryTime := none, lastChange := none, run := 0, eff := r.line }
    standing := []
    cursor := none
    mark := .none
    groups := s.groups.map fun g => { g with firstOut := if g.option then .armed else .off }
    slots := Vector.replicate 8 none
    hostTimer := 0
    chimeTimer := 0
    horn := false
    causes := 0#8
    attn := false }

/-- The points that the second stage re-announces, ascending. -/
def State.toAnnounce (s : State) : List PointNo :=
  (List.finRange 48).filter fun p => decide ((s.point p).inService = true ∧ (s.point p).line = .offNormal)

/-- The soft reset, both stages (R66). -/
def State.rebuilt (s : State) : State :=
  s.toAnnounce.foldl (fun s p => s.changedTo p (s.point p).seqType.offNormalState) s.cleared

/-! ### Panel (R138 to R146) -/

/-- An element showing FAST, SLOW or WINK, or STEADY, is lit in a phase (R140): by state, for a MAIN element (R141,
R143). -/
def AnnState.mainLit (st : AnnState) (phase : Nat) : Bool :=
  match st with
  | .quiet => false
  | .alarmNew => decide (phase = 0 ∨ phase = 2 ∨ phase = 4 ∨ phase = 6)
  | .alarmAcked => true
  | .clearedNew => decide (phase ≤ 5)
  | .ringback => decide (phase ≤ 3)

/-- The TAG element of an in-service point's window is lit in a phase (R142). -/
def State.tagLit (s : State) (p : PointNo) (phase : Nat) : Bool :=
  let r := s.point p
  if (s.groupRec r.group).firstOut = .held p then
    match r.state with
    | .quiet => false
    | .alarmNew | .clearedNew => decide (phase = 0 ∨ phase = 2 ∨ phase = 4 ∨ phase = 6)
    | .alarmAcked | .ringback => true
  else if r.shelf ≠ none then true
  else r.lockout && decide (phase ≤ 5)

/-- Some listed member of a group is in a state (R77). -/
def State.someListed (s : State) (g : GroupNo) (st : AnnState) : Bool :=
  s.standing.any fun q => decide ((s.point q).group = g ∧ (s.point q).state = st)

/-- The summary state of a group by its ranking (R77). -/
def State.summaryOf (s : State) (g : GroupNo) : AnnState :=
  if s.someListed g .alarmNew then .alarmNew
  else if s.someListed g .clearedNew then .clearedNew
  else if s.someListed g .alarmAcked then .alarmAcked
  else if s.someListed g .ringback then .ringback
  else .quiet

/-- The elements lit for a window entry in a phase, with no lamp test in force (R141, R142, R143). -/
def State.shownFor (s : State) (e : WindowEntry) (phase : Nat) : Elements :=
  match e with
  | .unbound => ⟨false, false⟩
  | .point p =>
    if (s.point p).inService = false then ⟨false, false⟩
    else if (s.point p).shelf ≠ none then ⟨false, true⟩
    else ⟨(s.point p).state.mainLit phase, s.tagLit p phase⟩
  | .group g =>
    ⟨(s.summaryOf g).mainLit phase,
     (List.finRange 48).any fun p => decide ((s.point p).group = g ∧ (s.point p).shelf ≠ none)⟩

end Sys2Proof.Machine
end

