-- ==== Sys2Proof/WellFormed.lean ====
section
/-!
DEFINITION. Which commands are well formed: those whose operands can stand in the happening that the row names.
-/

namespace Sys2Proof

/-- The bytes of a short transaction have not had a command taken: none is complete, or the command byte names a command
whose parameters are not all there (R164). An unknown code would have been taken at once (R170). -/
def bytesNotTaken : List Byte → Bool
  | [] => true
  | code :: rest =>
    match paramCount code with
    | none => false
    | some n => rest.length < n

/-- A command's operands fit its row. UNKNOWN_COMMAND carries a code outside E.1; SHORT_TRANSACTION carries bytes that
take no command; every other operand is checked by the AC48 itself and is well formed at every value. -/
def Instr.wellFormed : Instr → Bool
  | .unknownCommand code => (paramCount code).isNone
  | .shortTransaction bytes => bytesNotTaken bytes
  | .hardReset _ | .tick | .sample _ _ | .frameStart | .secondTick | .windowBoundary | .shelfExpiry
  | .chimeTimerExpiry | .hostTestTimerExpiry | .flashPhaseAdvance | .swap | .brightnessIntoForce
  | .definePoint _ _ _ _ | .placeInService _ | .removeFromService _ | .setClass _ _ | .readPoint _
  | .setCondition _ _ | .readLines | .acknowledge _ | .silence | .resetPoints _ | .setClassOptions _ _
  | .setGroupOptions _ _ | .readGroup _ | .setChatterLimit _ | .listTop | .listSeek _ | .readEntry | .listMark
  | .listReturn | .readListSummary | .shelve _ _ _ | .unshelve _ | .readShelfSlot _ | .writeWindow _ _
  | .readWindow _ _ | .swapBanks | .copyLiveToStaging | .setBrightness _ | .setPanel _ | .lampTest _ | .readPanel
  | .readCauses | .clearCauses _ | .setCauseEnables _ | .setButtonLock _ | .readButtons | .readUptime | .softReset
  | .transactionBegin | .transactionEnd => true

end Sys2Proof
end

