-- ==== Sys2Proof/Certificates/Slice0/Obligations.lean ====
section
/-!
DEFINITION. The statements about the AC48. Each docstring names the rules of spec/ that its statement rests on. A
command's completion is an equation with the whole next state, so that its frame is stated with its effect; the closed
forms are those of Outcomes.lean, the laws those of Safety.lean.
-/

open Sys2Proof Sys2Proof.Machine

/-! ### The queue, the invariants, the encoding -/

/-- A step runs the command at the front of the queue on the state with the queue's rest. -/
def Obligations.StepRunsTheFrontCommand : Prop :=
  ∀ (c : Instr) (cs : List Instr) (s : State), step { s with pending := c :: cs } = exec c { s with pending := cs }

/-- Every command is carried out or answered, in every state: none stops the device, and none touches the queue of those
that wait (R38, R163, R166). -/
def Obligations.EveryCommandCompletesAndLeavesTheQueue : Prop :=
  ∀ (c : Instr) (s : State), ∃ t, exec c s = .next t ∧ t.pending = s.pending

/-- Every law of Safety.lean holds right after a hard reset: those of the records, the list, the shelf, the groups, HORN, ATTNn,
the buttons, the counts and the link (R6, R20, R36, R79, R101, R116, R128, R150, R156, R161, R169). That a point without a
debouncer holds run count 0 is the model's choice (log entries 13 and 15). -/
def Obligations.EveryLawHoldsAtReset : Prop := State.reset.Inv

/-- Every step keeps the laws of the point records, the list, the cursor and mark, the times, the field lines, the shelf and
the groups (R3, R4, R11, R21, R37, R39, R68, R71, R81, R82, R83, R96, R104, R107). That a point without a debouncer holds
run count 0, which the laws of the records say too, is the model's choice (log entry 15). -/
def Obligations.StepKeepsTheAnnunciationLaws : Prop :=
  ∀ s t : State, s.AnnunciationLaws → step s = .next t → t.AnnunciationLaws

/-- Every step keeps HORN active exactly while a sounding point's class has horn enabled (R125). -/
def Obligations.StepKeepsTheHornLaw : Prop :=
  ∀ s t : State, s.AnnunciationLaws → s.HornLaw → step s = .next t → t.HornLaw

/-- Every step keeps ATTNn asserted exactly while a cause is pending and enabled (R160), the laws of the buttons and of the
button test (R117, R120, R121), the ranges of the device's counts (R25, R126, R144, R147, R154), and what the host link
holds in each phase of a transaction (R162 to R169). That no byte is counted until the command is taken, at which all of them
are, is the model's choice of whole-command steps (log entry 9). -/
def Obligations.StepKeepsTheUnitLaws : Prop :=
  ∀ s t : State, step s = .next t →
    (s.AttnLaw → t.AttnLaw) ∧ (s.ButtonLaw → t.ButtonLaw) ∧ (s.DeviceRangeLaw → t.DeviceRangeLaw) ∧
    (s.LinkLaw → t.LinkLaw)

/-- The bytes of every host command, with whatever follows them, read back as that command (R163, R165, R170, E.1); the
bytes of a short transaction read back as short (R164); and every byte sequence is read as a well-formed row. -/
def Obligations.TransactionBytesReadBack : Prop :=
  (∀ (c : Instr) (sent extra : List Byte), c.wellFormed = true → c.mosiBytes = some sent →
    transactionCommand (sent ++ extra) = c) ∧
  (∀ bytes : List Byte, (Instr.shortTransaction bytes).wellFormed = true →
    transactionCommand bytes = .shortTransaction bytes) ∧
  (∀ bytes : List Byte, (transactionCommand bytes).wellFormed = true)

/-! ### Whole-machine rules -/

/-- A refused command leaves every unit as it was and brings no data, LIST_END likewise; the data bytes after an OK are as
many as the catalogue gives; LASTERR follows the result; LIST_END comes from READ ENTRY alone and MARK_LOST from LIST
RETURN alone (R166, R167, section D). -/
def Obligations.ResultsGovernEffectsAndData : Prop :=
  ∀ (c : Instr) (s t : State) (a : Answer), c.isHostCommand → s.Ready → exec c s = .next t → t.link.answer = some a →
    (a.result ≠ .ok → a.result ≠ .markLost → t = { s with link := t.link }) ∧
    (a.result ≠ .ok → a.data = []) ∧
    (a.result = .ok → a.data.length = c.dataCount) ∧
    t.link.lastErr = (a.result.code.getLsbD 7) ∧
    (a.result = .listEnd → c = .readEntry ∧ s.cursor = none) ∧
    (a.result = .markLost → c = .listReturn ∧ s.mark = .lost)

/-- LASTERR is set at the taking of a command whose result is a refusal code or MARK_LOST and cleared by OK and LIST_END, set
at the end of a short transaction, cleared by a hard reset and by SOFT RESET, held by every other row, and reported in the
status byte that the next falling edge of CSn composes (R167, R168, R169). The model's own are: a command row and the row of a
short transaction sent with CSn high as the whole low period (log entry 7); the rise of CSn as read from the phase, and a
falling edge with CSn low as one after an unnamed rise, which ends a short transaction (log entry 8); and the row of a short
transaction as short whatever bytes it carries (log entry 11). -/
def Obligations.LastErrFollowsEachTransaction : Prop :=
  (∀ (c : Instr) (s t : State), c.isHostCommand → s.Ready → exec c s = .next t →
    ∃ a, t.link.answer = some a ∧
      (t.link.lastErr = false ↔ a.result = .ok ∨ a.result = .listEnd)) ∧
  (∀ (bytes : List Byte) (s t : State), s.Ready → exec (.shortTransaction bytes) s = .next t →
    t.link.lastErr = true) ∧
  (∀ s t : State, s.link.phase = .receiving → exec .transactionEnd s = .next t → t.link.lastErr = true) ∧
  (∀ (csLow : Bool) (s t : State), exec (.hardReset csLow) s = .next t → t.link.lastErr = false) ∧
  (∀ s t : State, s.Ready → exec .softReset s = .next t → t.link.lastErr = false) ∧
  (∀ (c : Instr) (s t : State), ¬ c.isHostCommand → (∀ bytes, c ≠ .shortTransaction bytes) → c ≠ .transactionEnd →
    c ≠ .transactionBegin → (∀ csLow, c ≠ .hardReset csLow) → exec c s = .next t → t.link.lastErr = s.link.lastErr) ∧
  (∀ s t : State, s.link.phase ≠ .receiving → exec .transactionEnd s = .next t → t.link.lastErr = s.link.lastErr) ∧
  (∀ s t : State, s.link.phase ≠ .receiving → exec .transactionBegin s = .next t →
    t.link.lastErr = s.link.lastErr ∧ ∃ b, t.link.status = some b ∧ b.getLsbD 3 = s.link.lastErr) ∧
  (∀ s t : State, s.link.phase = .receiving → exec .transactionBegin s = .next t →
    t.link.lastErr = true ∧ ∃ b, t.link.status = some b ∧ b.getLsbD 3 = true) ∧
  (∀ (c : Instr) (s t : State), c.isHostCommand ∨ (∃ bytes, c = .shortTransaction bytes) → ¬ s.Ready →
    exec c s = .next t → t.link.lastErr = s.link.lastErr)

/-- The configuration of an in-service point other than its class is constant for the whole of a service period
(R2, R68). -/
def Obligations.ConfigurationIsConstantInService : Prop :=
  ∀ (c : Instr) (s t : State) (p : PointNo), exec c s = .next t →
    (s.point p).inService = true → (t.point p).inService = true →
    (t.point p).source = (s.point p).source ∧ (t.point p).polarity = (s.point p).polarity ∧
    (t.point p).debounce = (s.point p).debounce ∧ (t.point p).seqType = (s.point p).seqType ∧
    (t.point p).group = (s.point p).group ∧
    ((∀ b₁ b₂, c ≠ .setClass b₁ b₂) → (t.point p).cls = (s.point p).cls)

/-- While a swap is pending, no command but a hard reset changes a bank, and the swap that ends it only exchanges the roles
(R136, R135). -/
def Obligations.StagingBankStandsWhileSwapPending : Prop :=
  ∀ (c : Instr) (s t : State), exec c s = .next t → (∀ csLow, c ≠ .hardReset csLow) → s.swapPending = true →
    t.bankA = s.bankA ∧ t.bankB = s.bankB ∧
    ((t.swapPending = true ∧ t.live = s.live) ∨ (t.swapPending = false ∧ t.live ≠ s.live))

/-- For as long as a point stays shelved, nothing changes its sequence fields: it stays QUIET, silent and unlisted, with its
times and its repeat count (R45, R107, R108). -/
def Obligations.ShelvedPointKeepsItsSequence : Prop :=
  ∀ (c : Instr) (s t : State) (p : PointNo), s.AnnunciationLaws → exec c s = .next t →
    (s.point p).shelf ≠ none → (t.point p).shelf = (s.point p).shelf →
    (t.point p).state = .quiet ∧ (t.point p).sounding = false ∧ p ∉ t.standing ∧
    (t.point p).entryTime = (s.point p).entryTime ∧ (t.point p).lastChange = (s.point p).lastChange ∧
    (t.point p).repeatCount = (s.point p).repeatCount

/-- A group that is HELD on a point leaves it, the two resets apart, only to ARMED, and is then quiet; or, at a SAMPLE and no other
row, to HELD on a LATCHING or SELF-CLEARING member that is listed, every such listed member having gone off-normal in that
sample and having a new entry of the present uptime with repeat count 0, so that the group was quiet in between; or to SPENT,
not quiet, with that point now shelved or out of service; or to OFF, with its option now off (R70, R71, R72, R73). -/
def Obligations.FirstOutIsLostOnlyAsTheTableSays : Prop :=
  ∀ (c : Instr) (s t : State) (g : GroupNo) (p : PointNo), s.AnnunciationLaws → exec c s = .next t →
    (∀ csLow, c ≠ .hardReset csLow) → c ≠ .softReset →
    (s.groupRec g).firstOut = .held p → (t.groupRec g).firstOut ≠ .held p →
    ((t.groupRec g).firstOut = .armed ∧ t.groupQuiet g = true) ∨
    (∃ lines pins q, c = .sample lines pins ∧ (t.groupRec g).firstOut = .held q ∧ q ∈ t.standing ∧
      (t.point q).group = g ∧ (t.point q).seqType ≠ .status ∧
      ∀ r, r ∈ t.standing → (t.point r).group = g → (t.point r).seqType ≠ .status →
        (s.point r).eff = .normal ∧ (t.point r).eff = .offNormal ∧
        (t.point r).entryTime = some s.uptime ∧ (t.point r).repeatCount = 0) ∨
    ((t.groupRec g).firstOut = .spent ∧ t.groupQuiet g = false ∧ ((t.point p).shelf ≠ none ∨ (t.point p).inService = false)) ∨
    ((t.groupRec g).firstOut = .off ∧ (t.groupRec g).option = false)

/-! ### The host link -/

/-- The falling edge of CSn begins a transaction with no byte counted, no command decoded and the status byte composed from
the device as it stands; its rise before a command is taken is a short transaction, which sets LASTERR and reaches no unit,
and its rise afterwards undoes nothing; a low period left from a hard reset is none; and once a command is taken, or in such
a low period, every further command byte is ignored (R162, R164, R165, R168, R169). The model's own are: the row of a short
transaction sent with CSn high as the whole low period (log entry 7); a falling edge with CSn low as one after an unnamed
rise, and what a rise does as read from the phase, whichever row names it (log entry 8); and the status byte and the answer
kept after the rise (log entry 10). -/
def Obligations.TransactionsBeginAndEnd : Prop :=
  (∀ s : State, s.link.phase ≠ .receiving → exec .transactionBegin s = .next { s with link :=
    { phase := .receiving, bytes := 0, command := none, params := [], status := some s.statusByte, answer := none,
      lastErr := s.link.lastErr } }) ∧
  (∀ s : State, s.link.phase = .receiving →
    let risen : State := { s with link := { s.link with phase := .idle, lastErr := true } }
    exec .transactionBegin s = .next { s with link :=
      { phase := .receiving, bytes := 0, command := none, params := [], status := some risen.statusByte, answer := none,
        lastErr := true } }) ∧
  (∀ s : State, s.link.phase = .receiving → exec .transactionEnd s = .next { s with link :=
    { s.link with phase := .idle, bytes := 0, command := none, params := [], lastErr := true } }) ∧
  (∀ s : State, s.link.phase = .taken → exec .transactionEnd s = .next { s with link :=
    { s.link with phase := .idle, bytes := 0, command := none, params := [] } }) ∧
  (∀ s : State, s.link.phase = .ignored → exec .transactionEnd s = .next { s with link :=
    { s.link with phase := .idle } }) ∧
  (∀ s : State, s.link.phase = .idle → exec .transactionEnd s = .next s) ∧
  (∀ (bytes : List Byte) (s : State), s.link.phase = .receiving → exec (.shortTransaction bytes) s =
    .next { s with link :=
      { s.link with phase := .idle, bytes := 0, command := none, params := [], lastErr := true } }) ∧
  (∀ (bytes : List Byte) (s : State), s.link.phase = .idle → exec (.shortTransaction bytes) s =
    .next { s with link :=
      { phase := .idle, bytes := 0, command := none, params := [], status := some s.statusByte, answer := none,
        lastErr := true } }) ∧
  (∀ (bytes : List Byte) (s : State), s.link.phase = .taken → exec (.shortTransaction bytes) s =
    .next { s with link := { s.link with phase := .idle, bytes := 0, command := none, params := [] } }) ∧
  (∀ (bytes : List Byte) (s : State), s.link.phase = .ignored → exec (.shortTransaction bytes) s =
    .next { s with link := { s.link with phase := .idle } }) ∧
  (∀ (c : Instr) (s : State), c.isHostCommand → s.link.phase = .taken ∨ s.link.phase = .ignored →
    exec c s = .next s)

/-- A host command sent with no transaction in progress is its whole transaction: the falling edge of CSn, the command, and
the rise of CSn. That the row stands for all three is the model's choice (log entry 7); each of the three is as R162, R163
and R165 give it. -/
def Obligations.CommandAloneIsItsWholeTransaction : Prop :=
  ∀ (c : Instr) (s : State), c.isHostCommand → s.link.phase = .idle →
    ∃ begun taken, exec .transactionBegin s = .next begun ∧ exec c begun = .next taken ∧
      exec .transactionEnd taken = exec c s

/-- What MISO carries, byte by byte: nothing outside a transaction; the status byte first; 00H until the command is taken;
then the result, the data, and 00H ever after (R162, R165, R169). -/
def Obligations.MisoCarriesStatusResultAndData : Prop :=
  ∀ (s : State) (k : Nat), s.LinkLaw →
    (s.link.phase = .idle ∨ s.link.phase = .ignored → s.misoByte k = none) ∧
    (s.link.phase = .receiving ∨ s.link.phase = .taken → s.misoByte 0 = s.link.status) ∧
    (s.link.phase = .receiving → 0 < k → s.misoByte k = some 0x00#8) ∧
    (∀ a : Answer, s.link.phase = .taken → s.link.answer = some a →
      (0 < k → k ≤ s.link.params.length → s.misoByte k = some 0x00#8) ∧
      (k = s.link.params.length + 1 → s.misoByte k = some a.result.code) ∧
      (∀ i, (h : i < a.data.length) → k = s.link.params.length + 2 + i → s.misoByte k = some a.data[i]) ∧
      (s.link.params.length + 2 + a.data.length ≤ k → s.misoByte k = some 0x00#8))

/-- Bytes travel the most significant bit first in both directions: the bits of whole bytes on MOSI are read as those bytes,
with fewer than eight bits left over discarded, and each byte of MISO is offered bit by bit (R162, R164). -/
def Obligations.BytesTravelMostSignificantBitFirst : Prop :=
  (∀ (bytes : List Byte) (part : List Bool), part.length < 8 →
    completeBytes (bytes.flatMap msbFirst ++ part) = bytes) ∧
  (∀ (s : State) (k : Nat) (b : Byte), s.misoByte k = some b →
    (List.finRange 8).map (s.misoBit k) = (msbFirst b).map some) ∧
  (∀ (s : State) (k : Nat) (i : Fin 8), s.misoByte k = none → s.misoBit k i = none)

/-- The eight bits of the status byte that a transaction begins with (R168, E.2). -/
def Obligations.StatusByteReportsTheDevice : Prop :=
  ∀ s t : State, s.link.phase = .idle → s.AttnLaw → exec .transactionBegin s = .next t →
    ∃ b : Byte, t.link.status = some b ∧
      (b.getLsbD 7 = true ↔ ∃ i : Fin 8, s.causes.getLsbD i.val = true ∧ s.enables.getLsbD i.val = true) ∧
      b.getLsbD 6 = s.swapPending ∧
      (b.getLsbD 5 = true ↔ s.buttonTest = true ∨ 0 < s.hostTimer) ∧
      b.getLsbD 4 = s.horn ∧
      b.getLsbD 3 = s.link.lastErr ∧
      (b.getLsbD 2 = true ↔ ∀ p, (s.point p).inService = false) ∧
      (b.getLsbD 1 = true ↔ ∃ k, s.slot k ≠ none) ∧
      (b.getLsbD 0 = true ↔ ∃ p, (s.point p).lockout = true)

/-- A code that names no command is taken at its byte and answered UNKNOWN_COMMAND with no data; no unit is reached, and
LASTERR is set (R170). -/
def Obligations.UnknownCodesAreAnswered : Prop :=
  ∀ (code : Byte) (s : State), s.Ready → paramCount code = none →
    exec (.unknownCommand code) s =
      .next { s with link := s.answered (.unknownCommand code) .unknownCommand [] } ∧
    (s.answered (.unknownCommand code) .unknownCommand []).lastErr = true

/-! ### The point table -/

/-- DEFINE POINT: the checks in their order, and the six configuration fields replaced with nothing else changed (R8). -/
def Obligations.DefinePointChecksAndEffect : Prop :=
  ∀ (point source options debounce : Byte) (s : State), s.Ready →
    (48 ≤ point.toNat → exec (.definePoint point source options debounce) s =
      .next { s with link := s.answered (.definePoint point source options debounce) .noSuch [] }) ∧
    (∀ p : PointNo, point.toNat = p.val →
      ((s.point p).inService = true → exec (.definePoint point source options debounce) s =
        .next { s with link := s.answered (.definePoint point source options debounce) .inService [] }) ∧
      ((s.point p).inService = false →
        (32 ≤ source.toNat ∧ source.toNat ≠ 0x80) ∨ options.toNat / 32 % 4 = 3 ∨ debounce.toNat = 0 ∨
          250 < debounce.toNat →
        exec (.definePoint point source options debounce) s =
          .next { s with link := s.answered (.definePoint point source options debounce) .badValue [] }) ∧
      (∀ c : PointConfig, (s.point p).inService = false → source.toNat = c.source.byteValue →
        options.toNat = c.optionsValue → debounce.toNat = c.debounce → 1 ≤ c.debounce → c.debounce ≤ 250 →
        exec (.definePoint point source options debounce) s =
          .next { s with
            points := s.points.set p { s.point p with toPointConfig := c }
            link := s.answered (.definePoint point source options debounce) .ok [] }))

/-- PLACE IN SERVICE: the checks in their order, none of which changes any state (R10); and carried out: the condition taken
from the latest raw sample through the polarity, or NORMAL for HOST, with the debouncer and the chatter fields begun afresh,
and the arrival if it is off-normal (R12, R13). -/
def Obligations.PlaceInServiceChecksAndEffect : Prop :=
  (∀ (point : Byte) (s : State), s.Ready →
     (48 ≤ point.toNat → exec (.placeInService point) s =
       .next { s with link := s.answered (.placeInService point) .noSuch [] }) ∧
     (∀ p : PointNo, point.toNat = p.val → (s.point p).inService = true → exec (.placeInService point) s =
       .next { s with link := s.answered (.placeInService point) .inService [] }) ∧
     (∀ (p q : PointNo) (k : LineNo), point.toNat = p.val → (s.point p).inService = false →
       (s.point p).source = .line k → q ≠ p → (s.point q).inService = true → (s.point q).source = .line k →
       exec (.placeInService point) s =
         .next { s with link := s.answered (.placeInService point) .lineTaken [] }) ∧
     (∀ p : PointNo, point.toNat = p.val → (s.point p).inService = false →
       (∀ q, q ≠ p → (s.point q).inService = true → (s.point q).source = (s.point p).source →
         (s.point p).source = .host) →
       ∃ t, exec (.placeInService point) s = .next t ∧ (t.point p).inService = true ∧
         t.link = s.answered (.placeInService point) .ok [])) ∧
  (∀ (point : Byte) (p : PointNo) (s : State), s.Ready → s.AnnunciationLaws → point.toNat = p.val →
     (s.point p).inService = false →
     (∀ (q : PointNo) (k : LineNo), (s.point p).source = .line k → q ≠ p → (s.point q).inService = true →
       (s.point q).source ≠ .line k) →
     let c := match (s.point p).source with
       | .line k => sampledCondition s.lines k (s.point p).polarity
       | .host => .normal
     let placed : State := { s with points := s.points.set p { s.point p with
       inService := true, line := c, eff := c, run := 0, chatterCount := 0, lockout := false } }
     exec (.placeInService point) s =
       .next { placed.arrived p with link := s.answered (.placeInService point) .ok [] })

/-- REMOVE FROM SERVICE is refused for a number out of range and for an out-of-service point, and otherwise carried out in
whatever state the point is in (R14): the entry gone, the slot freed, the record at the values of an unused point with its
configuration kept, the group's removal notice, HORN by the flags as they stand, and no cause but LIST (R15). That
the discarded debouncer leaves a run count of 0 in the record is the model's choice (log entry 15). -/
def Obligations.RemoveFromServiceChecksAndEffect : Prop :=
  (∀ (point : Byte) (s : State), s.Ready →
     (48 ≤ point.toNat → exec (.removeFromService point) s =
       .next { s with link := s.answered (.removeFromService point) .noSuch [] }) ∧
     (∀ p : PointNo, point.toNat = p.val → (s.point p).inService = false → exec (.removeFromService point) s =
       .next { s with link := s.answered (.removeFromService point) .outOfService [] }) ∧
     (∀ p : PointNo, point.toNat = p.val → (s.point p).inService = true →
       ∃ t, exec (.removeFromService point) s = .next t ∧ (t.point p).inService = false ∧
         t.link = s.answered (.removeFromService point) .ok [])) ∧
  (∀ (point : Byte) (p : PointNo) (s : State), s.Ready → s.AnnunciationLaws → point.toNat = p.val →
     (s.point p).inService = true →
     exec (.removeFromService point) s =
       .next { s.removed p with link := s.answered (.removeFromService point) .ok [] })

/-- SET CLASS: the checks, the field alone for an unlisted point or an equal class, and for a listed point the move of its
entry to the end of the new segment with LGEN, LIST and HORN (R17, R18, R86). -/
def Obligations.SetClassMovesTheEntry : Prop :=
  ∀ (point cls : Byte) (s : State), s.Ready →
    (48 ≤ point.toNat → exec (.setClass point cls) s =
      .next { s with link := s.answered (.setClass point cls) .noSuch [] }) ∧
    (point.toNat < 48 → 4 ≤ cls.toNat → exec (.setClass point cls) s =
      .next { s with link := s.answered (.setClass point cls) .badValue [] }) ∧
    (∀ (p : PointNo) (c : ClassNo), point.toNat = p.val → cls.toNat = c.val →
      p ∉ s.standing ∨ (s.point p).cls = c → exec (.setClass point cls) s =
        .next { s with
          points := s.points.set p { s.point p with cls := c }
          link := s.answered (.setClass point cls) .ok [] }) ∧
    (∀ (p : PointNo) (c : ClassNo), point.toNat = p.val → cls.toNat = c.val → s.AnnunciationLaws →
      p ∈ s.standing → (s.point p).cls ≠ c →
      let points := s.points.set p { s.point p with cls := c }
      exec (.setClass point cls) s =
        .next { { s with
          points := points
          standing := s.endOfClass p c (withoutEntry p s.standing)
          lgen := s.lgen + 1#16
          horn := if (s.point p).sounding then s.hornWith points else s.horn }.withCauses 0x20#8 with
            link := s.answered (.setClass point cls) .ok [] })

/-- READ POINT: refused for a number out of range; otherwise the sixteen bytes of E.6 hold every field of the record, with
listed and first-out as derived, and nothing changes (R19, R5, R172). -/
def Obligations.ReadPointReturnsTheRecord : Prop :=
  ∀ (point : Byte) (s : State), s.Ready →
    (48 ≤ point.toNat → exec (.readPoint point) s =
      .next { s with link := s.answered (.readPoint point) .noSuch [] }) ∧
    (∀ p : PointNo, point.toNat = p.val → s.AnnunciationLaws →
      ∃ d : List Byte, exec (.readPoint point) s =
          .next { s with link := s.answered (.readPoint point) .ok d } ∧ d.length = 16 ∧
        (d.getD 0 0).toNat = p.val ∧ (d.getD 1 0).toNat = (s.point p).source.byteValue ∧
        (d.getD 2 0).toNat = (s.point p).toPointConfig.optionsValue ∧ (d.getD 3 0).toNat = (s.point p).debounce ∧
        (d.getD 4 0).getLsbD 7 = (s.point p).inService ∧
        ((d.getD 4 0).getLsbD 6 = true ↔ (s.point p).line = .offNormal) ∧
        ((d.getD 4 0).getLsbD 5 = true ↔ (s.point p).eff = .offNormal) ∧
        (d.getD 4 0).getLsbD 4 = (s.point p).sounding ∧ (d.getD 4 0).getLsbD 3 = (s.point p).lockout ∧
        ((d.getD 4 0).getLsbD 2 = true ↔ (s.point p).shelf ≠ none) ∧
        ((d.getD 4 0).getLsbD 1 = true ↔ p ∈ s.standing) ∧
        ((d.getD 4 0).getLsbD 0 = true ↔ (s.groupRec (s.point p).group).firstOut = .held p) ∧
        (d.getD 5 0).toNat = 16 * ((s.point p).shelf.getD 0).val + (s.point p).state.code ∧
        (d.getD 6 0).toNat = (s.point p).chatterCount ∧ (d.getD 7 0).toNat = (s.point p).repeatCount ∧
        numberOf ((d.drop 8).take 4) = (s.point p).entryTime.getD 0xFFFFFFFF ∧
        numberOf (d.drop 12) = (s.point p).lastChange.getD 0xFFFFFFFF)

/-! ### The sequences -/

/-- SET CONDITION: the checks in their order, each refusal changing no state (R52); and carried out: no effect where the line
condition holds the value already; otherwise both conditions set and the notice taken by the point's table, with every
report of R41 (R53, R41 to R45). -/
def Obligations.SetConditionChecksAndEffect : Prop :=
  (∀ (point condition : Byte) (s : State), s.Ready →
     (48 ≤ point.toNat → exec (.setCondition point condition) s =
       .next { s with link := s.answered (.setCondition point condition) .noSuch [] }) ∧
     (∀ p : PointNo, point.toNat = p.val →
       ((s.point p).inService = false → exec (.setCondition point condition) s =
         .next { s with link := s.answered (.setCondition point condition) .outOfService [] }) ∧
       ((s.point p).inService = true → (s.point p).source ≠ .host → exec (.setCondition point condition) s =
         .next { s with link := s.answered (.setCondition point condition) .notHostPoint [] }) ∧
       ((s.point p).inService = true → (s.point p).source = .host → 2 ≤ condition.toNat →
         exec (.setCondition point condition) s =
           .next { s with link := s.answered (.setCondition point condition) .badValue [] }) ∧
       ((s.point p).inService = true → (s.point p).source = .host → condition.toNat < 2 →
         ∃ t, exec (.setCondition point condition) s = .next t ∧
           (t.point p).line = (if condition.toNat = 0 then .normal else .offNormal) ∧
           t.link = s.answered (.setCondition point condition) .ok []))) ∧
  (∀ (point : Byte) (p : PointNo) (c : Condition) (s : State), s.Ready → s.AnnunciationLaws → point.toNat = p.val →
     (s.point p).inService = true → (s.point p).source = .host →
     let cmd := Instr.setCondition point (match c with | .normal => 0x00#8 | .offNormal => 0x01#8)
     ((s.point p).line = c → exec cmd s = .next { s with link := s.answered cmd .ok [] }) ∧
     ((s.point p).line ≠ c → exec cmd s = .next
       { { s with points := s.points.set p { s.point p with line := c } }.delivered p c with
         link := s.answered cmd .ok [] }))

/-- ACKNOWLEDGE and RESET POINTS: the scope's checks, and the event applied to the covered points in ascending order, each
change whole, with the count of the points changed (R47, R49, R50, R51). -/
def Obligations.AcknowledgeAndResetActOnTheirScope : Prop :=
  (∀ (scope : Byte) (s : State), s.Ready →
     (scope.toNat / 64 = 3 ∨ (scope.toNat / 64 = 2 ∧ scope.toNat ≠ 128) → exec (.acknowledge scope) s =
       .next { s with link := s.answered (.acknowledge scope) .badValue [] }) ∧
     ((48 ≤ scope.toNat ∧ scope.toNat < 64) ∨ (72 ≤ scope.toNat ∧ scope.toNat < 128) →
       exec (.acknowledge scope) s =
         .next { s with link := s.answered (.acknowledge scope) .noSuch [] }) ∧
     (∀ sc : Scope, scope.toNat = sc.byteValue → s.AnnunciationLaws → exec (.acknowledge scope) s =
       .next { s.actedOn PointRec.ackState (s.covered sc) with
         link := s.answered (.acknowledge scope) .ok
           [BitVec.ofNat 8 (s.changeCount PointRec.ackState (s.covered sc))] })) ∧
  (∀ (scope : Byte) (s : State), s.Ready →
     (scope.toNat / 64 = 3 ∨ (scope.toNat / 64 = 2 ∧ scope.toNat ≠ 128) → exec (.resetPoints scope) s =
       .next { s with link := s.answered (.resetPoints scope) .badValue [] }) ∧
     ((48 ≤ scope.toNat ∧ scope.toNat < 64) ∨ (72 ≤ scope.toNat ∧ scope.toNat < 128) →
       exec (.resetPoints scope) s =
         .next { s with link := s.answered (.resetPoints scope) .noSuch [] }) ∧
     (∀ sc : Scope, scope.toNat = sc.byteValue → s.AnnunciationLaws → exec (.resetPoints scope) s =
       .next { s.actedOn PointRec.resetState (s.covered sc) with
         link := s.answered (.resetPoints scope) .ok
           [BitVec.ofNat 8 (s.changeCount PointRec.resetState (s.covered sc))] }))

/-- After an ACKNOWLEDGE of scope ALL no point awaits acknowledgement and HORN is inactive (R50, R39, R125). -/
def Obligations.AcknowledgeAllLeavesNothingNew : Prop :=
  ∀ s t : State, s.Ready → s.AnnunciationLaws → s.HornLaw → exec (.acknowledge 0x80#8) s = .next t →
    t.horn = false ∧ ∀ p, (t.point p).state ≠ .alarmNew ∧ (t.point p).state ≠ .clearedNew

/-- SILENCE: every sounding flag cleared and nothing else but HORN, with the count of the flags cleared (R46, R48). -/
def Obligations.SilenceClearsTheFlags : Prop :=
  ∀ s : State, s.Ready → exec .silence s =
    .next { s with
      points := s.points.map fun r => { r with sounding := false }
      horn := false
      link := s.answered .silence .ok
        [BitVec.ofNat 8 ((List.finRange 48).countP fun p => (s.point p).sounding)] }

/-- SOFT RESET: the first stage clears the live annunciation in every unit, and the second re-announces the off-normal
in-service points, P0 first, each by the steps of R41; it answers OK in every state of the device (R66, R171). -/
def Obligations.SoftResetClearsThenReannounces : Prop :=
  ∀ s : State, s.Ready → exec .softReset s = .next { s.rebuilt with link := s.answered .softReset .ok [] }

/-- What a SOFT RESET leaves: the list by class and then by point number, LGEN raised by the points re-announced, the cursor
at END and no mark, each group with first-out on HELD on its lowest-numbered off-normal LATCHING or SELF-CLEARING member in
service and otherwise ARMED, and every re-announced point in ALARM-NEW and sounding, or ALARM-ACKED for STATUS, with the
present uptime (R66, R73, R80, R102). -/
def Obligations.SoftResetRebuildsTheAnnunciation : Prop :=
  ∀ s t : State, s.Ready → exec .softReset s = .next t →
    let off := s.toAnnounce
    t.standing = (List.finRange 4).flatMap (fun c => off.filter fun p => decide ((s.point p).cls = c)) ∧
    t.lgen = s.lgen + BitVec.ofNat 16 off.length ∧ t.cursor = none ∧ t.mark = .none ∧
    (∀ g, (s.groupRec g).option = true → (t.groupRec g).firstOut =
      match off.find? (fun p => decide ((s.point p).group = g ∧ (s.point p).seqType ≠ .status)) with
      | some p => .held p
      | none => .armed) ∧
    (∀ p, p ∈ off → (t.point p).state = (s.point p).seqType.offNormalState ∧
      (t.point p).sounding = decide ((s.point p).seqType ≠ .status) ∧ (t.point p).entryTime = some s.uptime ∧
      (t.point p).lastChange = some s.uptime ∧ (t.point p).repeatCount = 0) ∧
    (∀ p, p ∉ off → (t.point p).state = .quiet ∧ (t.point p).entryTime = none ∧ (t.point p).lastChange = none) ∧
    (∀ p, (t.point p).toPointConfig = (s.point p).toPointConfig ∧
      (t.point p).inService = (s.point p).inService ∧ (t.point p).line = (s.point p).line ∧
      (t.point p).shelf = none ∧ (t.point p).lockout = false)

/-! ### Groups and class options -/

/-- SET GROUP OPTIONS: the checks, the option stored, and the first-out state moved as the table gives (R75). -/
def Obligations.SetGroupOptionsMovesFirstOut : Prop :=
  ∀ (group options : Byte) (s : State), s.Ready →
    (8 ≤ group.toNat → exec (.setGroupOptions group options) s =
      .next { s with link := s.answered (.setGroupOptions group options) .noSuch [] }) ∧
    (group.toNat < 8 → 2 ≤ options.toNat → exec (.setGroupOptions group options) s =
      .next { s with link := s.answered (.setGroupOptions group options) .badValue [] }) ∧
    (∀ g : GroupNo, group.toNat = g.val →
      (options.toNat = 0 → exec (.setGroupOptions group options) s =
        .next { s with
          groups := s.groups.set g ⟨false, .off⟩
          link := s.answered (.setGroupOptions group options) .ok [] }) ∧
      (options.toNat = 1 → (s.groupRec g).firstOut = .off → exec (.setGroupOptions group options) s =
        .next { s with
          groups := s.groups.set g ⟨true, if s.quietWith g s.standing then .armed else .spent⟩
          link := s.answered (.setGroupOptions group options) .ok [] }) ∧
      (options.toNat = 1 → (s.groupRec g).firstOut ≠ .off → exec (.setGroupOptions group options) s =
        .next { s with
          groups := s.groups.set g ⟨true, (s.groupRec g).firstOut⟩
          link := s.answered (.setGroupOptions group options) .ok [] }))

/-- READ GROUP: refused for a number out of range; otherwise the option, the first-out state and point, the three counts of
members and the summary, and nothing changes (R78, R77). -/
def Obligations.ReadGroupReturnsTheRecord : Prop :=
  ∀ (group : Byte) (s : State), s.Ready →
    (8 ≤ group.toNat → exec (.readGroup group) s =
      .next { s with link := s.answered (.readGroup group) .noSuch [] }) ∧
    (∀ g : GroupNo, group.toNat = g.val →
      ∃ d : List Byte, exec (.readGroup group) s =
          .next { s with link := s.answered (.readGroup group) .ok d } ∧ d.length = 7 ∧
        ((d.getD 0 0).toNat = if (s.groupRec g).option then 1 else 0) ∧
        ((d.getD 1 0).toNat = match (s.groupRec g).firstOut with
          | .off => 0 | .armed => 1 | .held _ => 2 | .spent => 3) ∧
        ((d.getD 2 0).toNat = match (s.groupRec g).firstOut with
          | .held p => p.val | .off | .armed | .spent => 0xFF) ∧
        (d.getD 3 0).toNat =
          (List.finRange 48).countP (fun p => decide ((s.point p).group = g ∧ (s.point p).inService = true)) ∧
        (d.getD 4 0).toNat =
          (List.finRange 48).countP (fun p => decide ((s.point p).group = g ∧ p ∈ s.standing)) ∧
        (d.getD 5 0).toNat =
          (List.finRange 48).countP (fun p => decide ((s.point p).group = g ∧ (s.point p).shelf ≠ none)) ∧
        (d.getD 6 0).toNat = (s.summaryOf g).code)

/-- SET CLASS OPTIONS: the checks, the two enables replaced, and HORN re-evaluated at once; no flag, state or cause changes
(R124). -/
def Obligations.SetClassOptionsGovernsTheHorn : Prop :=
  ∀ (cls options : Byte) (s : State), s.Ready →
    (4 ≤ cls.toNat → exec (.setClassOptions cls options) s =
      .next { s with link := s.answered (.setClassOptions cls options) .noSuch [] }) ∧
    (cls.toNat < 4 → 4 ≤ options.toNat → exec (.setClassOptions cls options) s =
      .next { s with link := s.answered (.setClassOptions cls options) .badValue [] }) ∧
    (∀ c : ClassNo, cls.toNat = c.val → options.toNat < 4 →
      let enables := s.classOptions.set c ⟨options.getLsbD 0, options.getLsbD 1⟩
      exec (.setClassOptions cls options) s =
        .next { s with
          classOptions := enables
          horn := { s with classOptions := enables }.hornWith s.points
          link := s.answered (.setClassOptions cls options) .ok [] })

/-! ### The standing list -/

/-- LIST TOP puts the cursor on the first entry or at END; LIST SEEK on the entry it names, or is refused, NO_SUCH before
NOT_LISTED; neither changes the mark, LGEN or a cause (R90, R91). -/
def Obligations.ListTopAndSeekPlaceTheCursor : Prop :=
  ∀ (point : Byte) (s : State), s.Ready →
    exec .listTop s = .next { s with cursor := s.standing.head?, link := s.answered .listTop .ok [] } ∧
    (48 ≤ point.toNat → exec (.listSeek point) s =
      .next { s with link := s.answered (.listSeek point) .noSuch [] }) ∧
    (∀ p : PointNo, point.toNat = p.val → p ∉ s.standing → exec (.listSeek point) s =
      .next { s with link := s.answered (.listSeek point) .notListed [] }) ∧
    (∀ p : PointNo, point.toNat = p.val → p ∈ s.standing → exec (.listSeek point) s =
      .next { s with cursor := some p, link := s.answered (.listSeek point) .ok [] })

/-- READ ENTRY at an entry returns its ten bytes and steps the cursor to the entry that follows, or to END; at END it returns
LIST_END and the cursor stays (R92, R93, E.7). -/
def Obligations.ReadEntryReturnsAndSteps : Prop :=
  ∀ s : State, s.Ready →
    (s.cursor = none → exec .readEntry s = .next { s with link := s.answered .readEntry .listEnd [] }) ∧
    (∀ p : PointNo, s.cursor = some p → s.AnnunciationLaws →
      ∃ d : List Byte, exec .readEntry s =
          .next { s with cursor := entryAfter p s.standing, link := s.answered .readEntry .ok d } ∧ d.length = 10 ∧
        (d.getD 0 0).toNat = p.val ∧ (d.getD 1 0).toNat = (s.point p).state.code ∧ (d.getD 1 0).toNat ≠ 0 ∧
        ((d.getD 2 0).getLsbD 7 = true ↔ (s.groupRec (s.point p).group).firstOut = .held p) ∧
        (d.getD 2 0).getLsbD 6 = (s.point p).lockout ∧ (d.getD 2 0).getLsbD 5 = false ∧
        (d.getD 2 0).toNat / 4 % 8 = (s.point p).group.val ∧ (d.getD 2 0).toNat % 4 = (s.point p).cls.val ∧
        (d.getD 3 0).toNat = (s.point p).repeatCount ∧
        some (numberOf ((d.drop 4).take 4)) = (s.point p).entryTime ∧ numberOf (d.drop 8) = s.lgen.toNat)

/-- LIST MARK stores the cursor in the mark; LIST RETURN goes back to it and keeps it, answers NO_MARK with none, and from a
LOST mark puts the cursor on the first entry, clears the mark and answers MARK_LOST (R95, R97, R98). -/
def Obligations.ListMarkAndReturn : Prop :=
  ∀ s : State, s.Ready →
    (∀ p, s.cursor = some p →
      exec .listMark s = .next { s with mark := .entry p, link := s.answered .listMark .ok [] }) ∧
    (s.cursor = none → exec .listMark s = .next { s with mark := .atEnd, link := s.answered .listMark .ok [] }) ∧
    (∀ p, s.mark = .entry p →
      exec .listReturn s = .next { s with cursor := some p, link := s.answered .listReturn .ok [] }) ∧
    (s.mark = .atEnd →
      exec .listReturn s = .next { s with cursor := none, link := s.answered .listReturn .ok [] }) ∧
    (s.mark = .lost → exec .listReturn s =
      .next { s with cursor := s.standing.head?, mark := .none, link := s.answered .listReturn .markLost [] }) ∧
    (s.mark = .none → exec .listReturn s = .next { s with link := s.answered .listReturn .noMark [] })

/-- READ LIST SUMMARY: the length, LGEN, the four class counts, which add up to the length, and the counts of ALARM-NEW and
CLEARED-NEW entries, which are also those of the whole device; nothing changes (R100). -/
def Obligations.ReadListSummaryCountsTheList : Prop :=
  ∀ s : State, s.Ready → s.AnnunciationLaws →
    ∃ d : List Byte, exec .readListSummary s = .next { s with link := s.answered .readListSummary .ok d } ∧
      d.length = 9 ∧ (d.getD 0 0).toNat = s.standing.length ∧ s.standing.length ≤ 48 ∧
      numberOf ((d.drop 1).take 2) = s.lgen.toNat ∧
      (∀ c : ClassNo, (d.getD (3 + c.val) 0).toNat =
        s.standing.countP fun p => decide ((s.point p).cls = c)) ∧
      (d.getD 3 0).toNat + (d.getD 4 0).toNat + (d.getD 5 0).toNat + (d.getD 6 0).toNat = s.standing.length ∧
      (d.getD 7 0).toNat = (List.finRange 48).countP (fun p => decide ((s.point p).state = .alarmNew)) ∧
      (d.getD 8 0).toNat = (List.finRange 48).countP (fun p => decide ((s.point p).state = .clearedNew))

/-! ### Shelving -/

/-- SHELVE: the five checks in their order, each refusal changing no state of any unit (R105); and carried out: the lowest free
slot taken for sixty seconds a minute, and the point forced QUIET and silent off the list with its group's shelve notice and
HORN re-evaluated, with no cause but LIST and no chime (R103, R106, R64). -/
def Obligations.ShelveChecksAndEffect : Prop :=
  (∀ (point high low : Byte) (s : State), s.Ready →
     let minutes := high.toNat * 256 + low.toNat
     (48 ≤ point.toNat → exec (.shelve point high low) s =
       .next { s with link := s.answered (.shelve point high low) .noSuch [] }) ∧
     (∀ p : PointNo, point.toNat = p.val →
       ((s.point p).inService = false → exec (.shelve point high low) s =
         .next { s with link := s.answered (.shelve point high low) .outOfService [] }) ∧
       ((s.point p).inService = true → (s.point p).shelf ≠ none → exec (.shelve point high low) s =
         .next { s with link := s.answered (.shelve point high low) .alreadyShelved [] }) ∧
       ((s.point p).inService = true → (s.point p).shelf = none → minutes = 0 ∨ 1440 < minutes →
         exec (.shelve point high low) s =
           .next { s with link := s.answered (.shelve point high low) .badValue [] }) ∧
       ((s.point p).inService = true → (s.point p).shelf = none → 1 ≤ minutes → minutes ≤ 1440 →
         (∀ k, s.slot k ≠ none) → exec (.shelve point high low) s =
           .next { s with link := s.answered (.shelve point high low) .shelfFull [] }) ∧
       ((s.point p).inService = true → (s.point p).shelf = none → 1 ≤ minutes → minutes ≤ 1440 →
         (∃ k, s.slot k = none) → ∃ t, exec (.shelve point high low) s = .next t ∧
           (t.point p).shelf ≠ none ∧ t.link = s.answered (.shelve point high low) .ok []))) ∧
  (∀ (point high low : Byte) (p : PointNo) (k : SlotNo) (s : State), s.Ready → s.AnnunciationLaws →
     point.toNat = p.val → (s.point p).inService = true → (s.point p).shelf = none →
     1 ≤ high.toNat * 256 + low.toNat → high.toNat * 256 + low.toNat ≤ 1440 →
     s.slot k = none → (∀ j, j < k → s.slot j ≠ none) →
     exec (.shelve point high low) s =
       .next { s.shelved p k ((high.toNat * 256 + low.toNat) * 60) with
         link := s.answered (.shelve point high low) .ok [] })

/-- UNSHELVE: the checks; the slot freed and the point off the shelf, arriving if its effective condition is OFF-NORMAL; SHELF
is not set (R111, R65). READ SHELF SLOT: refused for a number out of range; otherwise free or used, the point or FFH, and the
remaining seconds or 0; nothing changes (R115). -/
def Obligations.UnshelveAndReadShelfSlot : Prop :=
  (∀ (point : Byte) (s : State), s.Ready →
     (48 ≤ point.toNat → exec (.unshelve point) s =
       .next { s with link := s.answered (.unshelve point) .noSuch [] }) ∧
     (∀ p : PointNo, point.toNat = p.val → (s.point p).shelf = none → exec (.unshelve point) s =
       .next { s with link := s.answered (.unshelve point) .notShelved [] }) ∧
     (∀ (p : PointNo) (k : SlotNo), point.toNat = p.val → s.AnnunciationLaws → (s.point p).shelf = some k →
       exec (.unshelve point) s =
         .next { s.unshelved p k with link := s.answered (.unshelve point) .ok [] })) ∧
  (∀ (slot : Byte) (s : State), s.Ready →
     (8 ≤ slot.toNat → exec (.readShelfSlot slot) s =
       .next { s with link := s.answered (.readShelfSlot slot) .noSuch [] }) ∧
     (∀ k : SlotNo, slot.toNat = k.val → s.slot k = none → exec (.readShelfSlot slot) s =
       .next { s with link := s.answered (.readShelfSlot slot) .ok [0x00#8, 0xFF#8, 0#8, 0#8, 0#8] }) ∧
     (∀ (k : SlotNo) (r : SlotRec), slot.toNat = k.val → s.ShelfLaw → s.slot k = some r →
       ∃ d : List Byte, exec (.readShelfSlot slot) s =
           .next { s with link := s.answered (.readShelfSlot slot) .ok d } ∧ d.length = 5 ∧
         d.getD 0 0 = 0x01#8 ∧ (d.getD 1 0).toNat = r.point.val ∧ numberOf (d.drop 2) = r.remaining))

/-! ### The panel -/

/-- WRITE WINDOW: the checks in their order, and the entry replaced in the staging bank alone (R132). -/
def Obligations.WriteWindowChecksAndEffect : Prop :=
  ∀ (window entry : Byte) (s : State), s.Ready →
    (48 ≤ window.toNat → exec (.writeWindow window entry) s =
      .next { s with link := s.answered (.writeWindow window entry) .noSuch [] }) ∧
    (window.toNat < 48 → (∀ e : WindowEntry, entry.toNat ≠ e.byteValue) → exec (.writeWindow window entry) s =
      .next { s with link := s.answered (.writeWindow window entry) .badValue [] }) ∧
    (∀ (w : WindowNo) (e : WindowEntry), window.toNat = w.val → entry.toNat = e.byteValue →
      (s.swapPending = true → exec (.writeWindow window entry) s =
        .next { s with link := s.answered (.writeWindow window entry) .busy [] }) ∧
      (s.swapPending = false → s.live = .a → exec (.writeWindow window entry) s =
        .next { s with bankB := s.bankB.set w e, link := s.answered (.writeWindow window entry) .ok [] }) ∧
      (s.swapPending = false → s.live = .b → exec (.writeWindow window entry) s =
        .next { s with bankA := s.bankA.set w e, link := s.answered (.writeWindow window entry) .ok [] }))

/-- READ WINDOW: the checks, and the entry of the bank named by its letter, whether or not a swap is pending and whichever bank
is live; no state changes (R133). COPY LIVE TO STAGING: BUSY while a swap is pending; otherwise the live bank's 48 entries
copied into the staging bank, and nothing else (R134). -/
def Obligations.ReadWindowAndCopyLiveToStaging : Prop :=
  (∀ (bank window : Byte) (s : State), s.Ready →
     (48 ≤ window.toNat → exec (.readWindow bank window) s =
       .next { s with link := s.answered (.readWindow bank window) .noSuch [] }) ∧
     (window.toNat < 48 → 2 ≤ bank.toNat → exec (.readWindow bank window) s =
       .next { s with link := s.answered (.readWindow bank window) .badValue [] }) ∧
     (∀ w : WindowNo, window.toNat = w.val →
       (bank.toNat = 0 → exec (.readWindow bank window) s = .next { s with
         link := s.answered (.readWindow bank window) .ok [BitVec.ofNat 8 s.bankA[w].byteValue] }) ∧
       (bank.toNat = 1 → exec (.readWindow bank window) s = .next { s with
         link := s.answered (.readWindow bank window) .ok [BitVec.ofNat 8 s.bankB[w].byteValue] }))) ∧
  (∀ s : State, s.Ready →
     (s.swapPending = true → exec .copyLiveToStaging s =
       .next { s with link := s.answered .copyLiveToStaging .busy [] }) ∧
     (s.swapPending = false → s.live = .a → exec .copyLiveToStaging s =
       .next { s with bankB := s.bankA, link := s.answered .copyLiveToStaging .ok [] }) ∧
     (s.swapPending = false → s.live = .b → exec .copyLiveToStaging s =
       .next { s with bankA := s.bankB, link := s.answered .copyLiveToStaging .ok [] }))

/-- SWAP BANKS sets the swap-pending flag, or is refused with BUSY; a pending swap carried out exchanges the roles, clears the
flag and sets SWAP. That the row SWAP does nothing with none pending is the model's choice (log entry 3) (R135). -/
def Obligations.SwapBanksAndSwap : Prop :=
  ∀ s : State,
    (s.Ready → s.swapPending = true → exec .swapBanks s =
      .next { s with link := s.answered .swapBanks .busy [] }) ∧
    (s.Ready → s.swapPending = false → exec .swapBanks s =
      .next { s with swapPending := true, link := s.answered .swapBanks .ok [] }) ∧
    (s.swapPending = true → exec .swap s =
      .next ({ s with live := s.live.other, swapPending := false }.withCauses 0x40#8)) ∧
    (s.swapPending = false → exec .swap s = .next s)

/-- SET BRIGHTNESS takes 1 to 16 as the requested brightness and refuses the rest; and the row
BRIGHTNESS_INTO_FORCE, sent on its own, brings the requested brightness into force in any state: that this step of a frame
start may be taken alone is the model's reading (log entry 3). SET PANEL takes 00H and 01H and refuses the rest. SET CHATTER LIMIT takes 0 and 2 to 15 and refuses the
rest, and ends or begins no lockout and clears no count. None sets a cause (R144, R145, R25). -/
def Obligations.SettersTakeTheirValues : Prop :=
  (∀ (b : Byte) (s : State),
     (s.Ready → b.toNat = 0 ∨ 16 < b.toNat → exec (.setBrightness b) s =
       .next { s with link := s.answered (.setBrightness b) .badValue [] }) ∧
     (s.Ready → 1 ≤ b.toNat → b.toNat ≤ 16 → exec (.setBrightness b) s =
       .next { s with reqBrightness := b.toNat, link := s.answered (.setBrightness b) .ok [] }) ∧
     exec .brightnessIntoForce s = .next { s with brightness := s.reqBrightness } ∧
     (s.Ready → 2 ≤ b.toNat → exec (.setPanel b) s =
       .next { s with link := s.answered (.setPanel b) .badValue [] }) ∧
     (s.Ready → b.toNat < 2 → exec (.setPanel b) s =
       .next { s with panelEnabled := decide (b.toNat = 1), link := s.answered (.setPanel b) .ok [] })) ∧
  (∀ (limit : Byte) (s : State), s.Ready →
     (limit.toNat = 1 ∨ 15 < limit.toNat → exec (.setChatterLimit limit) s =
       .next { s with link := s.answered (.setChatterLimit limit) .badValue [] }) ∧
     (limit.toNat ≠ 1 → limit.toNat ≤ 15 → exec (.setChatterLimit limit) s =
       .next { s with chatterLimit := limit.toNat, link := s.answered (.setChatterLimit limit) .ok [] }))

/-- LAMP TEST: BAD_VALUE for a byte that names neither start nor stop; start sets the timer to 5000, with a chime trigger only
where no source held; stop of a running timer ends the host source, with TEST if the button test does not hold; stop of a
stopped timer has no effect (R146, R147). -/
def Obligations.LampTestStartsAndStops : Prop :=
  ∀ (v : Byte) (s : State), s.Ready →
    (2 ≤ v.toNat → exec (.lampTest v) s = .next { s with link := s.answered (.lampTest v) .badValue [] }) ∧
    (v.toNat = 1 → exec (.lampTest v) s = .next { s with
      hostTimer := 5000
      chimeTimer := if s.buttonTest = false ∧ s.hostTimer = 0 then 500 else s.chimeTimer
      link := s.answered (.lampTest v) .ok [] }) ∧
    (v.toNat = 0 → 0 < s.hostTimer → exec (.lampTest v) s =
      .next { { s with hostTimer := 0 }.withCauses (if s.buttonTest then 0#8 else 0x80#8) with
        link := s.answered (.lampTest v) .ok [] }) ∧
    (v.toNat = 0 → s.hostTimer = 0 → exec (.lampTest v) s =
      .next { s with link := s.answered (.lampTest v) .ok [] })

/-- READ PANEL: the six bytes of E.8 hold the live bank, the swap-pending flag, both brightnesses, the enable, the sources of
the lamp test, the ticks remaining and the phase; nothing changes (R149). -/
def Obligations.ReadPanelReturnsThePanel : Prop :=
  ∀ s : State, s.Ready → s.DeviceRangeLaw →
    ∃ d : List Byte, exec .readPanel s = .next { s with link := s.answered .readPanel .ok d } ∧ d.length = 6 ∧
      ((d.getD 0 0).getLsbD 0 = true ↔ s.live = .b) ∧ (d.getD 0 0).getLsbD 1 = s.swapPending ∧
      (d.getD 0 0).getLsbD 2 = s.panelEnabled ∧ (d.getD 0 0).getLsbD 3 = s.buttonTest ∧
      ((d.getD 0 0).getLsbD 4 = true ↔ 0 < s.hostTimer) ∧ (d.getD 0 0).toNat < 32 ∧
      (d.getD 1 0).toNat = s.reqBrightness ∧ (d.getD 2 0).toNat = s.brightness ∧
      numberOf ((d.drop 3).take 2) = s.hostTimer ∧ (d.getD 5 0).toNat = s.phase.val

/-- A frame start, in its four steps: the brightness into force; a pending swap carried out, with SWAP; the phase and the frame
count moved, but at the first frame start after a hard reset; the image composed from what then stands (R138, R135, R153,
R139, R145, R146). FLASH_PHASE_ADVANCE moves the phase, from 7 to 0, when the frame just ended was the sixteenth of its phase
(R153, R140): that it may be taken ahead of its frame start, which then does not move the phase again, is the model's reading
(log entry 3). -/
def Obligations.FrameStartTakesItsFourSteps : Prop :=
  (∀ s : State, ∃ img, exec .frameStart s = .next
       { { s with
           brightness := s.reqBrightness
           live := if s.swapPending then s.live.other else s.live
           swapPending := false
           phase := if s.frame ≠ none ∧ s.phaseAhead = false ∧ s.frameCount = 15 then s.phase + 1 else s.phase
           frameCount :=
             if s.frame = none ∨ s.phaseAhead = true then s.frameCount else s.frameCount + 1
           phaseAhead := if s.frame = none then s.phaseAhead else false }.withCauses
             (if s.swapPending then 0x40#8 else 0#8) with frame := some img } ∧
     img.brightness = s.reqBrightness ∧
     (img.active = true ↔ s.panelEnabled = true ∨ s.buttonTest = true ∨ 0 < s.hostTimer)) ∧
  (∀ s : State,
     (s.frame ≠ none → s.frameCount = 15 → s.phaseAhead = false → exec .flashPhaseAdvance s =
       .next { s with phase := s.phase + 1, frameCount := 0, phaseAhead := true }) ∧
     (s.frame = none ∨ s.frameCount ≠ 15 ∨ s.phaseAhead = true → exec .flashPhaseAdvance s = .next s))

/-- What each window shows in the frame that a frame start begins: every element lit during a lamp test; otherwise the elements
of its entry in the live bank, by the point's state and the precedence of its TAG, or by the group's summary and whether any
member is shelved, in the phase as it then stands (R140 to R143, R146). -/
def Obligations.FrameShowsTheLiveBank : Prop :=
  ∀ (s t : State) (img : FrameImage) (w : WindowNo), exec .frameStart s = .next t → t.frame = some img →
    (s.buttonTest = true ∨ 0 < s.hostTimer → img.windows[w] = ⟨true, true⟩) ∧
    (s.buttonTest = false → s.hostTimer = 0 →
      img.windows[w] = s.shownFor (if t.live = .a then t.bankA[w] else t.bankB[w]) t.phase.val)

/-- The drives in a row slot: the row of the slot for the whole tick and no other row; the column of each lit element of that
row for the first B sixteenths, of 64 periods each; none while the drives are not active or no frame has begun (R130,
R139). -/
def Obligations.DrivesScanTheFrame : Prop :=
  ∀ (s : State) (r : Fin 8) (c : Fin 12) (period : Fin 1024),
    (s.frame = none → s.rowDrive r = false ∧ s.columnDrive c period = false) ∧
    (∀ img, s.frame = some img →
      (img.active = false → s.rowDrive r = false ∧ s.columnDrive c period = false) ∧
      (img.active = true → (s.rowDrive r = true ↔ s.tickCount.val % 8 = r.val)) ∧
      (∀ w : WindowNo, img.active = true → s.tickCount.val % 8 = w.val / 6 →
        (c.val = 2 * (w.val % 6) → (s.columnDrive c period = true ↔
          img.windows[w].main = true ∧ period.val < 64 * img.brightness)) ∧
        (c.val = 2 * (w.val % 6) + 1 → (s.columnDrive c period = true ↔
          img.windows[w].tag = true ∧ period.val < 64 * img.brightness))))

/-! ### The input unit and the operator unit -/

/-- READ LINES: the latest raw sample, FI8k to FI8k+7 in byte k, with nothing changed, run, count or cause; nothing but a
SAMPLE or a hard reset changes the sample that it reports (R35, R20). -/
def Obligations.ReadLinesReturnsTheLatestSample : Prop :=
  (∀ s : State, s.Ready → ∃ d : List Byte, exec .readLines s =
      .next { s with link := s.answered .readLines .ok d } ∧ d.length = 4 ∧
    ∀ k : LineNo, (d.getD (k.val / 8) 0).getLsbD (k.val % 8) = s.lines.getLsbD k.val) ∧
  (∀ (c : Instr) (s t : State), exec c s = .next t → (∀ lines pins, c ≠ .sample lines pins) →
    (∀ csLow, c ≠ .hardReset csLow) → t.lines = s.lines)

/-- A sample replaces the latest raw sample and takes what it brings, the conditions of the debounced points in ascending field
line and the accepted levels of the buttons in the order ACKn, SILn, RSTn, TSTn, each whole, in some order that mixes the
two (R20, R23, R118). Which order is a free value (log entry 5). -/
def Obligations.SampleTakesLinesAndButtonsInOrder : Prop :=
  ∀ (lines : BitVec 32) (pins : BitVec 4) (s : State), s.AnnunciationLaws →
    ∃ (order : List SampleItem) (t : State), exec (.sample lines pins) s = .next t ∧
      order.filterMap SampleItem.point? = s.debounced ∧
      order.filterMap SampleItem.button? = s.acceptedButtons pins ∧
      { t with orderIndex := s.orderIndex } = order.foldl (State.itemTaken lines) (s.read lines pins)

/-- After a sample the debouncer, the chatter count, the lockout and the effective condition of every debounced point are as
the sample gives them, whatever the order of its buttons, and those of every other point are unchanged (R22, R24, R26,
R27). -/
def Obligations.SampleDebouncesEveryPoint : Prop :=
  ∀ (lines : BitVec 32) (pins : BitVec 4) (s t : State) (p : PointNo), s.AnnunciationLaws →
    exec (.sample lines pins) s = .next t →
    let r := if (s.point p).inService = true ∧ (s.point p).source ≠ .host
      then (s.point p).sampled s.chatterLimit (s.sampledFor lines p) else s.point p
    (t.point p).line = r.line ∧ (t.point p).run = r.run ∧ (t.point p).chatterCount = r.chatterCount ∧
      (t.point p).lockout = r.lockout ∧ (t.point p).eff = r.eff ∧ t.lines = lines

/-- After a sample each button's debouncer is as R117 gives, its press count is one more modulo 256 exactly where a press was
accepted, BUTTON is set by any press, locked or not, and the button test is held or ended by TSTn (R117, R119, R120). -/
def Obligations.SampleDebouncesEveryButton : Prop :=
  ∀ (lines : BitVec 32) (pins : BitVec 4) (s t : State) (i : Fin 4),
    exec (.sample lines pins) s = .next t →
    let r := s.buttons[i].sampled (pinPressed pins i)
    let pressed : Bool := s.buttons[i].accepts (pinPressed pins i) && r.pressed
    t.buttons[i] = { r with presses := if pressed then r.presses + 1#8 else r.presses } ∧
    (pressed = true → t.causes.getLsbD 4 = true) ∧
    (pressed = true → i = 3 → t.buttonTest = (s.buttonTest || !s.lockMask.getLsbD 3)) ∧
    (s.buttons[i].accepts (pinPressed pins i) = true → r.pressed = false → i = 3 → t.buttonTest = false) ∧
    (s.buttons[i].accepts (pinPressed pins i) = false → i = 3 → t.buttonTest = s.buttonTest)

/-- SET BUTTON LOCK: BAD_VALUE for unused bits set; otherwise the whole mask replaced, and a button test in force ended by the
locking of TSTn, with TEST if the host timer is stopped (R121, R146). READ BUTTONS: the accepted levels, the mask and the
press counts, with nothing changed (R123). -/
def Obligations.ButtonLockAndReadButtons : Prop :=
  ∀ (mask : Byte) (s : State), s.Ready →
    (16 ≤ mask.toNat → exec (.setButtonLock mask) s =
      .next { s with link := s.answered (.setButtonLock mask) .badValue [] }) ∧
    (mask.toNat < 16 → exec (.setButtonLock mask) s =
      let masked : State := { s with lockMask := BitVec.ofNat 4 mask.toNat }
      .next { if mask.getLsbD 3 then masked.testReleased else masked with
        link := s.answered (.setButtonLock mask) .ok [] }) ∧
    (∃ d : List Byte, exec .readButtons s = .next { s with link := s.answered .readButtons .ok d } ∧ d.length = 6 ∧
      (∀ i : Fin 4, (d.getD 0 0).getLsbD i.val = s.buttons[i].pressed) ∧ (d.getD 0 0).toNat < 16 ∧
      (d.getD 1 0).toNat = s.lockMask.toNat ∧ ∀ i : Fin 4, d.getD (2 + i.val) 0 = s.buttons[i].presses)

/-! ### The timebase and the attention unit -/

/-- A tick: the tick count moves from 999 to 0, the chime timer and the host test timer count down, and the tick at which the
host timer reaches 0 ends the lamp test with TEST unless the button holds it (R152, R126, R147, R146). The period count at 0
and the record of a second tick are the model's own (log entries 12 and 4), and so is it that the rows of the two timers'
expiries act alone only at a timer's last tick (log entry 3). -/
def Obligations.TickRunsTheTimers : Prop :=
  (∀ s : State,
     exec .tick s = .next ({ s with
       periodCount := 0
       tickCount := ⟨(s.tickCount.val + 1) % 1000, Nat.mod_lt _ (by decide)⟩
       chimeTimer := s.chimeTimer - 1
       hostTimer := s.hostTimer - 1
       second := if s.second = SecondStage.taken then .notBegun else s.second }.withCauses
         (if s.hostTimer = 1 ∧ s.buttonTest = false then 0x80#8 else 0#8))) ∧
  (∀ s : State,
     (s.chimeTimer = 1 → exec .chimeTimerExpiry s = .next { s with chimeTimer := 0 }) ∧
     (s.chimeTimer ≠ 1 → exec .chimeTimerExpiry s = .next s) ∧
     (s.hostTimer = 1 → exec .hostTestTimerExpiry s =
       .next ({ s with hostTimer := 0 }.withCauses (if s.buttonTest then 0#8 else 0x80#8))) ∧
     (s.hostTimer ≠ 1 → exec .hostTestTimerExpiry s = .next s))

/-- A second tick: the uptime one more, holding at FFFFFFFEH, every used slot one second fewer, and then the slots at 0 expired,
S0 first, each whole with the arrival it may bring (R154, R109, R110). The uptime is not increased a second time where an
expiry or a boundary of the same second tick was taken ahead of it, by the model's reading (log entry 4). -/
def Obligations.SecondTickCountsAndExpires : Prop :=
  ∀ s : State, s.AnnunciationLaws →
    (s.second ≠ .begun → exec .secondTick s = .next { s.counted.expiries with second := .taken }) ∧
    (s.second = .begun → exec .secondTick s =
      .next { { s.counted with uptime := s.uptime }.expiries with second := .taken })

/-- A slot's expiry: freed, the point off the shelf and arriving if off-normal, and last of all SHELF (R110, R65). The row
takes the lowest-numbered slot in its last second, after the uptime increase of its second tick, and finds none after a
SECOND_TICK: so far the model's reading (log entry 4). -/
def Obligations.ShelfExpiryReturnsThePoint : Prop :=
  ∀ s : State, s.AnnunciationLaws →
    (∀ (k : SlotNo) (r : SlotRec), s.slot k = some r → r.remaining = 1 →
      (∀ j r', j < k → s.slot j = some r' → r'.remaining ≠ 1) →
      (s.second = .notBegun → exec .shelfExpiry s =
        .next ({ s with uptime := uptimeAfter s.uptime, second := .begun }.expired k)) ∧
      (s.second = .begun → exec .shelfExpiry s = .next (s.expired k))) ∧
    ((∀ k r, s.slot k = some r → r.remaining ≠ 1) → exec .shelfExpiry s = .next s) ∧
    (s.second = .taken → exec .shelfExpiry s = .next s)

/-- A window boundary closes a chatter window: every debounced point judged by ascending field line, its count cleared, and a
lockout that saw no change ended, with CHATTER and the return it may deliver (R28, R29). Taken ahead of the rest of its
second tick it follows the uptime increase, and at an uptime that is no multiple of 10 it does nothing: the model's reading
(log entry 4). -/
def Obligations.WindowBoundaryJudgesTheLockouts : Prop :=
  ∀ s : State, s.AnnunciationLaws →
    (s.second = .notBegun → s.uptime < 0xFFFFFFFE → (s.uptime + 1) % 10 = 0 → exec .windowBoundary s =
      .next { s with uptime := s.uptime + 1, second := .begun }.windowClosed) ∧
    (s.uptime ≠ 0 → s.uptime % 10 = 0 → exec .windowBoundary s = .next s.windowClosed) ∧
    (s.uptime % 10 ≠ 0 → s.second ≠ .notBegun ∨ (s.uptime + 1) % 10 ≠ 0 → exec .windowBoundary s = .next s) ∧
    (s.uptime = 0 → exec .windowBoundary s = .next s)

/-- READ UPTIME returns the uptime in four bytes and changes nothing; the uptime never falls but at a hard reset (R155,
R154). -/
def Obligations.ReadUptimeReturnsTheUptime : Prop :=
  (∀ s : State, s.Ready → s.uptime ≤ 0xFFFFFFFE → ∃ d : List Byte, exec .readUptime s =
    .next { s with link := s.answered .readUptime .ok d } ∧ d.length = 4 ∧ numberOf d = s.uptime) ∧
  (∀ (c : Instr) (s t : State), exec c s = .next t → (∀ csLow, c ≠ .hardReset csLow) →
    t.uptime = s.uptime ∨ t.uptime = uptimeAfter s.uptime ∧ (c = .secondTick ∨ c = .windowBoundary ∨ c = .shelfExpiry))

/-- READ CAUSES returns the pending causes and clears nothing; CLEAR CAUSES returns them as they stood and clears those its mask
marks; SET CAUSE ENABLES replaces the enables; ATTNn follows both at once (R158, R159, R160). -/
def Obligations.CausesAreReadClearedAndEnabled : Prop :=
  ∀ (b : Byte) (s : State), s.Ready →
    exec .readCauses s = .next { s with link := s.answered .readCauses .ok [s.causes] } ∧
    (∃ t, exec (.clearCauses b) s = .next t ∧
      t = { s with causes := t.causes, attn := t.attn, link := s.answered (.clearCauses b) .ok [s.causes] } ∧
      (∀ i : Fin 8, t.causes.getLsbD i.val = (s.causes.getLsbD i.val && !b.getLsbD i.val)) ∧
      (t.attn = true ↔ ∃ i : Fin 8, t.causes.getLsbD i.val = true ∧ s.enables.getLsbD i.val = true)) ∧
    (∃ t, exec (.setCauseEnables b) s = .next t ∧
      t = { s with enables := b, attn := t.attn, link := s.answered (.setCauseEnables b) .ok [] } ∧
      (t.attn = true ↔ ∃ i : Fin 8, s.causes.getLsbD i.val = true ∧ b.getLsbD i.val = true))

/-! ### Hard reset -/

/-- A hard reset leaves every unit at the values its chapter gives, whatever stood before it: every record as R6, the list and
groups empty and OFF, the shelf free, no cause and no enable, the panel mapped UNBOUND at brightness 16, the timebase at 0 and
no transaction in progress. The queue and the free value's count stay; the values of `status`, `answer`, `run`, `frame`,
`phaseAhead` and `second` are the model's (log entries 6 and 13). -/
def Obligations.HardResetSetsEveryUnit : Prop :=
  ∀ (csLow : Bool) (s : State), exec (.hardReset csLow) s = .next
    { pending := s.pending, orderIndex := s.orderIndex
      periodCount := 0, tickCount := 0, uptime := 0, phase := 0, frameCount := 0
      lines := 0xFFFFFFFF#32, chatterLimit := 0
      buttons := Vector.replicate 4 { pressed := false, run := 0, presses := 0#8 }, lockMask := 0#4
      points := Vector.replicate 48
        { source := .host, polarity := .whenClosed, debounce := 10, seqType := .latching, cls := 3, group := 0,
          inService := false, line := .normal, eff := .normal, state := .quiet, shelf := none, sounding := false,
          chatterCount := 0, lockout := false, repeatCount := 0, entryTime := none, lastChange := none, run := 0 }
      standing := [], lgen := 0#16, cursor := none, mark := .none
      groups := Vector.replicate 8 { option := false, firstOut := .off }
      slots := Vector.replicate 8 none
      bankA := Vector.replicate 48 .unbound, bankB := Vector.replicate 48 .unbound, live := .a, swapPending := false
      reqBrightness := 16, brightness := 16, panelEnabled := true, hostTimer := 0, buttonTest := false, frame := none
      classOptions := Vector.replicate 4 { horn := true, chime := true }, chimeTimer := 0, horn := false
      causes := 0#8, enables := 0#8, attn := false
      link :=
        { phase := if csLow then .ignored else .idle, bytes := 0, command := none, params := [], status := none,
          answer := none, lastErr := false }
      phaseAhead := false, second := .notBegun }
end

