-- ==== Sys2Proof/Laws/State.lean ====
section
/-!
SUPPORT. What each accessor's update changes and leaves: one lemma per field per update, and reading back what was
written.
-/

namespace Sys2Proof.Machine

variable (s : State)

/-! ### setPoint -/

@[simp] theorem setPoint_pending (p : PointNo) (r : PointRec) : (s.setPoint p r).pending = s.pending := rfl
@[simp] theorem setPoint_periodCount (p : PointNo) (r : PointRec) : (s.setPoint p r).periodCount = s.periodCount := rfl
@[simp] theorem setPoint_tickCount (p : PointNo) (r : PointRec) : (s.setPoint p r).tickCount = s.tickCount := rfl
@[simp] theorem setPoint_uptime (p : PointNo) (r : PointRec) : (s.setPoint p r).uptime = s.uptime := rfl
@[simp] theorem setPoint_phase (p : PointNo) (r : PointRec) : (s.setPoint p r).phase = s.phase := rfl
@[simp] theorem setPoint_frameCount (p : PointNo) (r : PointRec) : (s.setPoint p r).frameCount = s.frameCount := rfl
@[simp] theorem setPoint_lines (p : PointNo) (r : PointRec) : (s.setPoint p r).lines = s.lines := rfl
@[simp] theorem setPoint_chatterLimit (p : PointNo) (r : PointRec) : (s.setPoint p r).chatterLimit = s.chatterLimit := rfl
@[simp] theorem setPoint_buttons (p : PointNo) (r : PointRec) : (s.setPoint p r).buttons = s.buttons := rfl
@[simp] theorem setPoint_lockMask (p : PointNo) (r : PointRec) : (s.setPoint p r).lockMask = s.lockMask := rfl
@[simp] theorem setPoint_standing (p : PointNo) (r : PointRec) : (s.setPoint p r).standing = s.standing := rfl
@[simp] theorem setPoint_lgen (p : PointNo) (r : PointRec) : (s.setPoint p r).lgen = s.lgen := rfl
@[simp] theorem setPoint_cursor (p : PointNo) (r : PointRec) : (s.setPoint p r).cursor = s.cursor := rfl
@[simp] theorem setPoint_mark (p : PointNo) (r : PointRec) : (s.setPoint p r).mark = s.mark := rfl
@[simp] theorem setPoint_groups (p : PointNo) (r : PointRec) : (s.setPoint p r).groups = s.groups := rfl
@[simp] theorem setPoint_slots (p : PointNo) (r : PointRec) : (s.setPoint p r).slots = s.slots := rfl
@[simp] theorem setPoint_bankA (p : PointNo) (r : PointRec) : (s.setPoint p r).bankA = s.bankA := rfl
@[simp] theorem setPoint_bankB (p : PointNo) (r : PointRec) : (s.setPoint p r).bankB = s.bankB := rfl
@[simp] theorem setPoint_live (p : PointNo) (r : PointRec) : (s.setPoint p r).live = s.live := rfl
@[simp] theorem setPoint_swapPending (p : PointNo) (r : PointRec) : (s.setPoint p r).swapPending = s.swapPending := rfl
@[simp] theorem setPoint_reqBrightness (p : PointNo) (r : PointRec) : (s.setPoint p r).reqBrightness = s.reqBrightness := rfl
@[simp] theorem setPoint_brightness (p : PointNo) (r : PointRec) : (s.setPoint p r).brightness = s.brightness := rfl
@[simp] theorem setPoint_panelEnabled (p : PointNo) (r : PointRec) : (s.setPoint p r).panelEnabled = s.panelEnabled := rfl
@[simp] theorem setPoint_hostTimer (p : PointNo) (r : PointRec) : (s.setPoint p r).hostTimer = s.hostTimer := rfl
@[simp] theorem setPoint_buttonTest (p : PointNo) (r : PointRec) : (s.setPoint p r).buttonTest = s.buttonTest := rfl
@[simp] theorem setPoint_frame (p : PointNo) (r : PointRec) : (s.setPoint p r).frame = s.frame := rfl
@[simp] theorem setPoint_classOptions (p : PointNo) (r : PointRec) : (s.setPoint p r).classOptions = s.classOptions := rfl
@[simp] theorem setPoint_chimeTimer (p : PointNo) (r : PointRec) : (s.setPoint p r).chimeTimer = s.chimeTimer := rfl
@[simp] theorem setPoint_horn (p : PointNo) (r : PointRec) : (s.setPoint p r).horn = s.horn := rfl
@[simp] theorem setPoint_causes (p : PointNo) (r : PointRec) : (s.setPoint p r).causes = s.causes := rfl
@[simp] theorem setPoint_enables (p : PointNo) (r : PointRec) : (s.setPoint p r).enables = s.enables := rfl
@[simp] theorem setPoint_attn (p : PointNo) (r : PointRec) : (s.setPoint p r).attn = s.attn := rfl
@[simp] theorem setPoint_link (p : PointNo) (r : PointRec) : (s.setPoint p r).link = s.link := rfl
@[simp] theorem setPoint_phaseAhead (p : PointNo) (r : PointRec) : (s.setPoint p r).phaseAhead = s.phaseAhead := rfl
@[simp] theorem setPoint_second (p : PointNo) (r : PointRec) : (s.setPoint p r).second = s.second := rfl
@[simp] theorem setPoint_orderIndex (p : PointNo) (r : PointRec) : (s.setPoint p r).orderIndex = s.orderIndex := rfl

/-! ### setGroup -/

@[simp] theorem setGroup_pending (g : GroupNo) (r : GroupRec) : (s.setGroup g r).pending = s.pending := rfl
@[simp] theorem setGroup_periodCount (g : GroupNo) (r : GroupRec) : (s.setGroup g r).periodCount = s.periodCount := rfl
@[simp] theorem setGroup_tickCount (g : GroupNo) (r : GroupRec) : (s.setGroup g r).tickCount = s.tickCount := rfl
@[simp] theorem setGroup_uptime (g : GroupNo) (r : GroupRec) : (s.setGroup g r).uptime = s.uptime := rfl
@[simp] theorem setGroup_phase (g : GroupNo) (r : GroupRec) : (s.setGroup g r).phase = s.phase := rfl
@[simp] theorem setGroup_frameCount (g : GroupNo) (r : GroupRec) : (s.setGroup g r).frameCount = s.frameCount := rfl
@[simp] theorem setGroup_lines (g : GroupNo) (r : GroupRec) : (s.setGroup g r).lines = s.lines := rfl
@[simp] theorem setGroup_chatterLimit (g : GroupNo) (r : GroupRec) : (s.setGroup g r).chatterLimit = s.chatterLimit := rfl
@[simp] theorem setGroup_buttons (g : GroupNo) (r : GroupRec) : (s.setGroup g r).buttons = s.buttons := rfl
@[simp] theorem setGroup_lockMask (g : GroupNo) (r : GroupRec) : (s.setGroup g r).lockMask = s.lockMask := rfl
@[simp] theorem setGroup_points (g : GroupNo) (r : GroupRec) : (s.setGroup g r).points = s.points := rfl
@[simp] theorem setGroup_standing (g : GroupNo) (r : GroupRec) : (s.setGroup g r).standing = s.standing := rfl
@[simp] theorem setGroup_lgen (g : GroupNo) (r : GroupRec) : (s.setGroup g r).lgen = s.lgen := rfl
@[simp] theorem setGroup_cursor (g : GroupNo) (r : GroupRec) : (s.setGroup g r).cursor = s.cursor := rfl
@[simp] theorem setGroup_mark (g : GroupNo) (r : GroupRec) : (s.setGroup g r).mark = s.mark := rfl
@[simp] theorem setGroup_slots (g : GroupNo) (r : GroupRec) : (s.setGroup g r).slots = s.slots := rfl
@[simp] theorem setGroup_bankA (g : GroupNo) (r : GroupRec) : (s.setGroup g r).bankA = s.bankA := rfl
@[simp] theorem setGroup_bankB (g : GroupNo) (r : GroupRec) : (s.setGroup g r).bankB = s.bankB := rfl
@[simp] theorem setGroup_live (g : GroupNo) (r : GroupRec) : (s.setGroup g r).live = s.live := rfl
@[simp] theorem setGroup_swapPending (g : GroupNo) (r : GroupRec) : (s.setGroup g r).swapPending = s.swapPending := rfl
@[simp] theorem setGroup_reqBrightness (g : GroupNo) (r : GroupRec) : (s.setGroup g r).reqBrightness = s.reqBrightness := rfl
@[simp] theorem setGroup_brightness (g : GroupNo) (r : GroupRec) : (s.setGroup g r).brightness = s.brightness := rfl
@[simp] theorem setGroup_panelEnabled (g : GroupNo) (r : GroupRec) : (s.setGroup g r).panelEnabled = s.panelEnabled := rfl
@[simp] theorem setGroup_hostTimer (g : GroupNo) (r : GroupRec) : (s.setGroup g r).hostTimer = s.hostTimer := rfl
@[simp] theorem setGroup_buttonTest (g : GroupNo) (r : GroupRec) : (s.setGroup g r).buttonTest = s.buttonTest := rfl
@[simp] theorem setGroup_frame (g : GroupNo) (r : GroupRec) : (s.setGroup g r).frame = s.frame := rfl
@[simp] theorem setGroup_classOptions (g : GroupNo) (r : GroupRec) : (s.setGroup g r).classOptions = s.classOptions := rfl
@[simp] theorem setGroup_chimeTimer (g : GroupNo) (r : GroupRec) : (s.setGroup g r).chimeTimer = s.chimeTimer := rfl
@[simp] theorem setGroup_horn (g : GroupNo) (r : GroupRec) : (s.setGroup g r).horn = s.horn := rfl
@[simp] theorem setGroup_causes (g : GroupNo) (r : GroupRec) : (s.setGroup g r).causes = s.causes := rfl
@[simp] theorem setGroup_enables (g : GroupNo) (r : GroupRec) : (s.setGroup g r).enables = s.enables := rfl
@[simp] theorem setGroup_attn (g : GroupNo) (r : GroupRec) : (s.setGroup g r).attn = s.attn := rfl
@[simp] theorem setGroup_link (g : GroupNo) (r : GroupRec) : (s.setGroup g r).link = s.link := rfl
@[simp] theorem setGroup_phaseAhead (g : GroupNo) (r : GroupRec) : (s.setGroup g r).phaseAhead = s.phaseAhead := rfl
@[simp] theorem setGroup_second (g : GroupNo) (r : GroupRec) : (s.setGroup g r).second = s.second := rfl
@[simp] theorem setGroup_orderIndex (g : GroupNo) (r : GroupRec) : (s.setGroup g r).orderIndex = s.orderIndex := rfl

/-! ### setSlot -/

@[simp] theorem setSlot_pending (k : SlotNo) (r : Option SlotRec) : (s.setSlot k r).pending = s.pending := rfl
@[simp] theorem setSlot_periodCount (k : SlotNo) (r : Option SlotRec) : (s.setSlot k r).periodCount = s.periodCount := rfl
@[simp] theorem setSlot_tickCount (k : SlotNo) (r : Option SlotRec) : (s.setSlot k r).tickCount = s.tickCount := rfl
@[simp] theorem setSlot_uptime (k : SlotNo) (r : Option SlotRec) : (s.setSlot k r).uptime = s.uptime := rfl
@[simp] theorem setSlot_phase (k : SlotNo) (r : Option SlotRec) : (s.setSlot k r).phase = s.phase := rfl
@[simp] theorem setSlot_frameCount (k : SlotNo) (r : Option SlotRec) : (s.setSlot k r).frameCount = s.frameCount := rfl
@[simp] theorem setSlot_lines (k : SlotNo) (r : Option SlotRec) : (s.setSlot k r).lines = s.lines := rfl
@[simp] theorem setSlot_chatterLimit (k : SlotNo) (r : Option SlotRec) : (s.setSlot k r).chatterLimit = s.chatterLimit := rfl
@[simp] theorem setSlot_buttons (k : SlotNo) (r : Option SlotRec) : (s.setSlot k r).buttons = s.buttons := rfl
@[simp] theorem setSlot_lockMask (k : SlotNo) (r : Option SlotRec) : (s.setSlot k r).lockMask = s.lockMask := rfl
@[simp] theorem setSlot_points (k : SlotNo) (r : Option SlotRec) : (s.setSlot k r).points = s.points := rfl
@[simp] theorem setSlot_standing (k : SlotNo) (r : Option SlotRec) : (s.setSlot k r).standing = s.standing := rfl
@[simp] theorem setSlot_lgen (k : SlotNo) (r : Option SlotRec) : (s.setSlot k r).lgen = s.lgen := rfl
@[simp] theorem setSlot_cursor (k : SlotNo) (r : Option SlotRec) : (s.setSlot k r).cursor = s.cursor := rfl
@[simp] theorem setSlot_mark (k : SlotNo) (r : Option SlotRec) : (s.setSlot k r).mark = s.mark := rfl
@[simp] theorem setSlot_groups (k : SlotNo) (r : Option SlotRec) : (s.setSlot k r).groups = s.groups := rfl
@[simp] theorem setSlot_bankA (k : SlotNo) (r : Option SlotRec) : (s.setSlot k r).bankA = s.bankA := rfl
@[simp] theorem setSlot_bankB (k : SlotNo) (r : Option SlotRec) : (s.setSlot k r).bankB = s.bankB := rfl
@[simp] theorem setSlot_live (k : SlotNo) (r : Option SlotRec) : (s.setSlot k r).live = s.live := rfl
@[simp] theorem setSlot_swapPending (k : SlotNo) (r : Option SlotRec) : (s.setSlot k r).swapPending = s.swapPending := rfl
@[simp] theorem setSlot_reqBrightness (k : SlotNo) (r : Option SlotRec) : (s.setSlot k r).reqBrightness = s.reqBrightness := rfl
@[simp] theorem setSlot_brightness (k : SlotNo) (r : Option SlotRec) : (s.setSlot k r).brightness = s.brightness := rfl
@[simp] theorem setSlot_panelEnabled (k : SlotNo) (r : Option SlotRec) : (s.setSlot k r).panelEnabled = s.panelEnabled := rfl
@[simp] theorem setSlot_hostTimer (k : SlotNo) (r : Option SlotRec) : (s.setSlot k r).hostTimer = s.hostTimer := rfl
@[simp] theorem setSlot_buttonTest (k : SlotNo) (r : Option SlotRec) : (s.setSlot k r).buttonTest = s.buttonTest := rfl
@[simp] theorem setSlot_frame (k : SlotNo) (r : Option SlotRec) : (s.setSlot k r).frame = s.frame := rfl
@[simp] theorem setSlot_classOptions (k : SlotNo) (r : Option SlotRec) : (s.setSlot k r).classOptions = s.classOptions := rfl
@[simp] theorem setSlot_chimeTimer (k : SlotNo) (r : Option SlotRec) : (s.setSlot k r).chimeTimer = s.chimeTimer := rfl
@[simp] theorem setSlot_horn (k : SlotNo) (r : Option SlotRec) : (s.setSlot k r).horn = s.horn := rfl
@[simp] theorem setSlot_causes (k : SlotNo) (r : Option SlotRec) : (s.setSlot k r).causes = s.causes := rfl
@[simp] theorem setSlot_enables (k : SlotNo) (r : Option SlotRec) : (s.setSlot k r).enables = s.enables := rfl
@[simp] theorem setSlot_attn (k : SlotNo) (r : Option SlotRec) : (s.setSlot k r).attn = s.attn := rfl
@[simp] theorem setSlot_link (k : SlotNo) (r : Option SlotRec) : (s.setSlot k r).link = s.link := rfl
@[simp] theorem setSlot_phaseAhead (k : SlotNo) (r : Option SlotRec) : (s.setSlot k r).phaseAhead = s.phaseAhead := rfl
@[simp] theorem setSlot_second (k : SlotNo) (r : Option SlotRec) : (s.setSlot k r).second = s.second := rfl
@[simp] theorem setSlot_orderIndex (k : SlotNo) (r : Option SlotRec) : (s.setSlot k r).orderIndex = s.orderIndex := rfl

/-! ### setButton -/

@[simp] theorem setButton_pending (b : Button) (r : ButtonRec) : (s.setButton b r).pending = s.pending := rfl
@[simp] theorem setButton_periodCount (b : Button) (r : ButtonRec) : (s.setButton b r).periodCount = s.periodCount := rfl
@[simp] theorem setButton_tickCount (b : Button) (r : ButtonRec) : (s.setButton b r).tickCount = s.tickCount := rfl
@[simp] theorem setButton_uptime (b : Button) (r : ButtonRec) : (s.setButton b r).uptime = s.uptime := rfl
@[simp] theorem setButton_phase (b : Button) (r : ButtonRec) : (s.setButton b r).phase = s.phase := rfl
@[simp] theorem setButton_frameCount (b : Button) (r : ButtonRec) : (s.setButton b r).frameCount = s.frameCount := rfl
@[simp] theorem setButton_lines (b : Button) (r : ButtonRec) : (s.setButton b r).lines = s.lines := rfl
@[simp] theorem setButton_chatterLimit (b : Button) (r : ButtonRec) : (s.setButton b r).chatterLimit = s.chatterLimit := rfl
@[simp] theorem setButton_lockMask (b : Button) (r : ButtonRec) : (s.setButton b r).lockMask = s.lockMask := rfl
@[simp] theorem setButton_points (b : Button) (r : ButtonRec) : (s.setButton b r).points = s.points := rfl
@[simp] theorem setButton_standing (b : Button) (r : ButtonRec) : (s.setButton b r).standing = s.standing := rfl
@[simp] theorem setButton_lgen (b : Button) (r : ButtonRec) : (s.setButton b r).lgen = s.lgen := rfl
@[simp] theorem setButton_cursor (b : Button) (r : ButtonRec) : (s.setButton b r).cursor = s.cursor := rfl
@[simp] theorem setButton_mark (b : Button) (r : ButtonRec) : (s.setButton b r).mark = s.mark := rfl
@[simp] theorem setButton_groups (b : Button) (r : ButtonRec) : (s.setButton b r).groups = s.groups := rfl
@[simp] theorem setButton_slots (b : Button) (r : ButtonRec) : (s.setButton b r).slots = s.slots := rfl
@[simp] theorem setButton_bankA (b : Button) (r : ButtonRec) : (s.setButton b r).bankA = s.bankA := rfl
@[simp] theorem setButton_bankB (b : Button) (r : ButtonRec) : (s.setButton b r).bankB = s.bankB := rfl
@[simp] theorem setButton_live (b : Button) (r : ButtonRec) : (s.setButton b r).live = s.live := rfl
@[simp] theorem setButton_swapPending (b : Button) (r : ButtonRec) : (s.setButton b r).swapPending = s.swapPending := rfl
@[simp] theorem setButton_reqBrightness (b : Button) (r : ButtonRec) : (s.setButton b r).reqBrightness = s.reqBrightness := rfl
@[simp] theorem setButton_brightness (b : Button) (r : ButtonRec) : (s.setButton b r).brightness = s.brightness := rfl
@[simp] theorem setButton_panelEnabled (b : Button) (r : ButtonRec) : (s.setButton b r).panelEnabled = s.panelEnabled := rfl
@[simp] theorem setButton_hostTimer (b : Button) (r : ButtonRec) : (s.setButton b r).hostTimer = s.hostTimer := rfl
@[simp] theorem setButton_buttonTest (b : Button) (r : ButtonRec) : (s.setButton b r).buttonTest = s.buttonTest := rfl
@[simp] theorem setButton_frame (b : Button) (r : ButtonRec) : (s.setButton b r).frame = s.frame := rfl
@[simp] theorem setButton_classOptions (b : Button) (r : ButtonRec) : (s.setButton b r).classOptions = s.classOptions := rfl
@[simp] theorem setButton_chimeTimer (b : Button) (r : ButtonRec) : (s.setButton b r).chimeTimer = s.chimeTimer := rfl
@[simp] theorem setButton_horn (b : Button) (r : ButtonRec) : (s.setButton b r).horn = s.horn := rfl
@[simp] theorem setButton_causes (b : Button) (r : ButtonRec) : (s.setButton b r).causes = s.causes := rfl
@[simp] theorem setButton_enables (b : Button) (r : ButtonRec) : (s.setButton b r).enables = s.enables := rfl
@[simp] theorem setButton_attn (b : Button) (r : ButtonRec) : (s.setButton b r).attn = s.attn := rfl
@[simp] theorem setButton_link (b : Button) (r : ButtonRec) : (s.setButton b r).link = s.link := rfl
@[simp] theorem setButton_phaseAhead (b : Button) (r : ButtonRec) : (s.setButton b r).phaseAhead = s.phaseAhead := rfl
@[simp] theorem setButton_second (b : Button) (r : ButtonRec) : (s.setButton b r).second = s.second := rfl
@[simp] theorem setButton_orderIndex (b : Button) (r : ButtonRec) : (s.setButton b r).orderIndex = s.orderIndex := rfl

/-! ### refreshAttn -/

@[simp] theorem refreshAttn_pending : (s.refreshAttn).pending = s.pending := rfl
@[simp] theorem refreshAttn_periodCount : (s.refreshAttn).periodCount = s.periodCount := rfl
@[simp] theorem refreshAttn_tickCount : (s.refreshAttn).tickCount = s.tickCount := rfl
@[simp] theorem refreshAttn_uptime : (s.refreshAttn).uptime = s.uptime := rfl
@[simp] theorem refreshAttn_phase : (s.refreshAttn).phase = s.phase := rfl
@[simp] theorem refreshAttn_frameCount : (s.refreshAttn).frameCount = s.frameCount := rfl
@[simp] theorem refreshAttn_lines : (s.refreshAttn).lines = s.lines := rfl
@[simp] theorem refreshAttn_chatterLimit : (s.refreshAttn).chatterLimit = s.chatterLimit := rfl
@[simp] theorem refreshAttn_buttons : (s.refreshAttn).buttons = s.buttons := rfl
@[simp] theorem refreshAttn_lockMask : (s.refreshAttn).lockMask = s.lockMask := rfl
@[simp] theorem refreshAttn_points : (s.refreshAttn).points = s.points := rfl
@[simp] theorem refreshAttn_standing : (s.refreshAttn).standing = s.standing := rfl
@[simp] theorem refreshAttn_lgen : (s.refreshAttn).lgen = s.lgen := rfl
@[simp] theorem refreshAttn_cursor : (s.refreshAttn).cursor = s.cursor := rfl
@[simp] theorem refreshAttn_mark : (s.refreshAttn).mark = s.mark := rfl
@[simp] theorem refreshAttn_groups : (s.refreshAttn).groups = s.groups := rfl
@[simp] theorem refreshAttn_slots : (s.refreshAttn).slots = s.slots := rfl
@[simp] theorem refreshAttn_bankA : (s.refreshAttn).bankA = s.bankA := rfl
@[simp] theorem refreshAttn_bankB : (s.refreshAttn).bankB = s.bankB := rfl
@[simp] theorem refreshAttn_live : (s.refreshAttn).live = s.live := rfl
@[simp] theorem refreshAttn_swapPending : (s.refreshAttn).swapPending = s.swapPending := rfl
@[simp] theorem refreshAttn_reqBrightness : (s.refreshAttn).reqBrightness = s.reqBrightness := rfl
@[simp] theorem refreshAttn_brightness : (s.refreshAttn).brightness = s.brightness := rfl
@[simp] theorem refreshAttn_panelEnabled : (s.refreshAttn).panelEnabled = s.panelEnabled := rfl
@[simp] theorem refreshAttn_hostTimer : (s.refreshAttn).hostTimer = s.hostTimer := rfl
@[simp] theorem refreshAttn_buttonTest : (s.refreshAttn).buttonTest = s.buttonTest := rfl
@[simp] theorem refreshAttn_frame : (s.refreshAttn).frame = s.frame := rfl
@[simp] theorem refreshAttn_classOptions : (s.refreshAttn).classOptions = s.classOptions := rfl
@[simp] theorem refreshAttn_chimeTimer : (s.refreshAttn).chimeTimer = s.chimeTimer := rfl
@[simp] theorem refreshAttn_horn : (s.refreshAttn).horn = s.horn := rfl
@[simp] theorem refreshAttn_causes : (s.refreshAttn).causes = s.causes := rfl
@[simp] theorem refreshAttn_enables : (s.refreshAttn).enables = s.enables := rfl
@[simp] theorem refreshAttn_link : (s.refreshAttn).link = s.link := rfl
@[simp] theorem refreshAttn_phaseAhead : (s.refreshAttn).phaseAhead = s.phaseAhead := rfl
@[simp] theorem refreshAttn_second : (s.refreshAttn).second = s.second := rfl
@[simp] theorem refreshAttn_orderIndex : (s.refreshAttn).orderIndex = s.orderIndex := rfl

/-! ### refreshHorn -/

@[simp] theorem refreshHorn_pending : (s.refreshHorn).pending = s.pending := rfl
@[simp] theorem refreshHorn_periodCount : (s.refreshHorn).periodCount = s.periodCount := rfl
@[simp] theorem refreshHorn_tickCount : (s.refreshHorn).tickCount = s.tickCount := rfl
@[simp] theorem refreshHorn_uptime : (s.refreshHorn).uptime = s.uptime := rfl
@[simp] theorem refreshHorn_phase : (s.refreshHorn).phase = s.phase := rfl
@[simp] theorem refreshHorn_frameCount : (s.refreshHorn).frameCount = s.frameCount := rfl
@[simp] theorem refreshHorn_lines : (s.refreshHorn).lines = s.lines := rfl
@[simp] theorem refreshHorn_chatterLimit : (s.refreshHorn).chatterLimit = s.chatterLimit := rfl
@[simp] theorem refreshHorn_buttons : (s.refreshHorn).buttons = s.buttons := rfl
@[simp] theorem refreshHorn_lockMask : (s.refreshHorn).lockMask = s.lockMask := rfl
@[simp] theorem refreshHorn_points : (s.refreshHorn).points = s.points := rfl
@[simp] theorem refreshHorn_standing : (s.refreshHorn).standing = s.standing := rfl
@[simp] theorem refreshHorn_lgen : (s.refreshHorn).lgen = s.lgen := rfl
@[simp] theorem refreshHorn_cursor : (s.refreshHorn).cursor = s.cursor := rfl
@[simp] theorem refreshHorn_mark : (s.refreshHorn).mark = s.mark := rfl
@[simp] theorem refreshHorn_groups : (s.refreshHorn).groups = s.groups := rfl
@[simp] theorem refreshHorn_slots : (s.refreshHorn).slots = s.slots := rfl
@[simp] theorem refreshHorn_bankA : (s.refreshHorn).bankA = s.bankA := rfl
@[simp] theorem refreshHorn_bankB : (s.refreshHorn).bankB = s.bankB := rfl
@[simp] theorem refreshHorn_live : (s.refreshHorn).live = s.live := rfl
@[simp] theorem refreshHorn_swapPending : (s.refreshHorn).swapPending = s.swapPending := rfl
@[simp] theorem refreshHorn_reqBrightness : (s.refreshHorn).reqBrightness = s.reqBrightness := rfl
@[simp] theorem refreshHorn_brightness : (s.refreshHorn).brightness = s.brightness := rfl
@[simp] theorem refreshHorn_panelEnabled : (s.refreshHorn).panelEnabled = s.panelEnabled := rfl
@[simp] theorem refreshHorn_hostTimer : (s.refreshHorn).hostTimer = s.hostTimer := rfl
@[simp] theorem refreshHorn_buttonTest : (s.refreshHorn).buttonTest = s.buttonTest := rfl
@[simp] theorem refreshHorn_frame : (s.refreshHorn).frame = s.frame := rfl
@[simp] theorem refreshHorn_classOptions : (s.refreshHorn).classOptions = s.classOptions := rfl
@[simp] theorem refreshHorn_chimeTimer : (s.refreshHorn).chimeTimer = s.chimeTimer := rfl
@[simp] theorem refreshHorn_causes : (s.refreshHorn).causes = s.causes := rfl
@[simp] theorem refreshHorn_enables : (s.refreshHorn).enables = s.enables := rfl
@[simp] theorem refreshHorn_attn : (s.refreshHorn).attn = s.attn := rfl
@[simp] theorem refreshHorn_link : (s.refreshHorn).link = s.link := rfl
@[simp] theorem refreshHorn_phaseAhead : (s.refreshHorn).phaseAhead = s.phaseAhead := rfl
@[simp] theorem refreshHorn_second : (s.refreshHorn).second = s.second := rfl
@[simp] theorem refreshHorn_orderIndex : (s.refreshHorn).orderIndex = s.orderIndex := rfl

/-! ### setCause -/

@[simp] theorem setCause_pending (c : Cause) : (s.setCause c).pending = s.pending := rfl
@[simp] theorem setCause_periodCount (c : Cause) : (s.setCause c).periodCount = s.periodCount := rfl
@[simp] theorem setCause_tickCount (c : Cause) : (s.setCause c).tickCount = s.tickCount := rfl
@[simp] theorem setCause_uptime (c : Cause) : (s.setCause c).uptime = s.uptime := rfl
@[simp] theorem setCause_phase (c : Cause) : (s.setCause c).phase = s.phase := rfl
@[simp] theorem setCause_frameCount (c : Cause) : (s.setCause c).frameCount = s.frameCount := rfl
@[simp] theorem setCause_lines (c : Cause) : (s.setCause c).lines = s.lines := rfl
@[simp] theorem setCause_chatterLimit (c : Cause) : (s.setCause c).chatterLimit = s.chatterLimit := rfl
@[simp] theorem setCause_buttons (c : Cause) : (s.setCause c).buttons = s.buttons := rfl
@[simp] theorem setCause_lockMask (c : Cause) : (s.setCause c).lockMask = s.lockMask := rfl
@[simp] theorem setCause_points (c : Cause) : (s.setCause c).points = s.points := rfl
@[simp] theorem setCause_standing (c : Cause) : (s.setCause c).standing = s.standing := rfl
@[simp] theorem setCause_lgen (c : Cause) : (s.setCause c).lgen = s.lgen := rfl
@[simp] theorem setCause_cursor (c : Cause) : (s.setCause c).cursor = s.cursor := rfl
@[simp] theorem setCause_mark (c : Cause) : (s.setCause c).mark = s.mark := rfl
@[simp] theorem setCause_groups (c : Cause) : (s.setCause c).groups = s.groups := rfl
@[simp] theorem setCause_slots (c : Cause) : (s.setCause c).slots = s.slots := rfl
@[simp] theorem setCause_bankA (c : Cause) : (s.setCause c).bankA = s.bankA := rfl
@[simp] theorem setCause_bankB (c : Cause) : (s.setCause c).bankB = s.bankB := rfl
@[simp] theorem setCause_live (c : Cause) : (s.setCause c).live = s.live := rfl
@[simp] theorem setCause_swapPending (c : Cause) : (s.setCause c).swapPending = s.swapPending := rfl
@[simp] theorem setCause_reqBrightness (c : Cause) : (s.setCause c).reqBrightness = s.reqBrightness := rfl
@[simp] theorem setCause_brightness (c : Cause) : (s.setCause c).brightness = s.brightness := rfl
@[simp] theorem setCause_panelEnabled (c : Cause) : (s.setCause c).panelEnabled = s.panelEnabled := rfl
@[simp] theorem setCause_hostTimer (c : Cause) : (s.setCause c).hostTimer = s.hostTimer := rfl
@[simp] theorem setCause_buttonTest (c : Cause) : (s.setCause c).buttonTest = s.buttonTest := rfl
@[simp] theorem setCause_frame (c : Cause) : (s.setCause c).frame = s.frame := rfl
@[simp] theorem setCause_classOptions (c : Cause) : (s.setCause c).classOptions = s.classOptions := rfl
@[simp] theorem setCause_chimeTimer (c : Cause) : (s.setCause c).chimeTimer = s.chimeTimer := rfl
@[simp] theorem setCause_horn (c : Cause) : (s.setCause c).horn = s.horn := rfl
@[simp] theorem setCause_enables (c : Cause) : (s.setCause c).enables = s.enables := rfl
@[simp] theorem setCause_link (c : Cause) : (s.setCause c).link = s.link := rfl
@[simp] theorem setCause_phaseAhead (c : Cause) : (s.setCause c).phaseAhead = s.phaseAhead := rfl
@[simp] theorem setCause_second (c : Cause) : (s.setCause c).second = s.second := rfl
@[simp] theorem setCause_orderIndex (c : Cause) : (s.setCause c).orderIndex = s.orderIndex := rfl

/-! ### chimeTrigger -/

@[simp] theorem chimeTrigger_pending : (s.chimeTrigger).pending = s.pending := rfl
@[simp] theorem chimeTrigger_periodCount : (s.chimeTrigger).periodCount = s.periodCount := rfl
@[simp] theorem chimeTrigger_tickCount : (s.chimeTrigger).tickCount = s.tickCount := rfl
@[simp] theorem chimeTrigger_uptime : (s.chimeTrigger).uptime = s.uptime := rfl
@[simp] theorem chimeTrigger_phase : (s.chimeTrigger).phase = s.phase := rfl
@[simp] theorem chimeTrigger_frameCount : (s.chimeTrigger).frameCount = s.frameCount := rfl
@[simp] theorem chimeTrigger_lines : (s.chimeTrigger).lines = s.lines := rfl
@[simp] theorem chimeTrigger_chatterLimit : (s.chimeTrigger).chatterLimit = s.chatterLimit := rfl
@[simp] theorem chimeTrigger_buttons : (s.chimeTrigger).buttons = s.buttons := rfl
@[simp] theorem chimeTrigger_lockMask : (s.chimeTrigger).lockMask = s.lockMask := rfl
@[simp] theorem chimeTrigger_points : (s.chimeTrigger).points = s.points := rfl
@[simp] theorem chimeTrigger_standing : (s.chimeTrigger).standing = s.standing := rfl
@[simp] theorem chimeTrigger_lgen : (s.chimeTrigger).lgen = s.lgen := rfl
@[simp] theorem chimeTrigger_cursor : (s.chimeTrigger).cursor = s.cursor := rfl
@[simp] theorem chimeTrigger_mark : (s.chimeTrigger).mark = s.mark := rfl
@[simp] theorem chimeTrigger_groups : (s.chimeTrigger).groups = s.groups := rfl
@[simp] theorem chimeTrigger_slots : (s.chimeTrigger).slots = s.slots := rfl
@[simp] theorem chimeTrigger_bankA : (s.chimeTrigger).bankA = s.bankA := rfl
@[simp] theorem chimeTrigger_bankB : (s.chimeTrigger).bankB = s.bankB := rfl
@[simp] theorem chimeTrigger_live : (s.chimeTrigger).live = s.live := rfl
@[simp] theorem chimeTrigger_swapPending : (s.chimeTrigger).swapPending = s.swapPending := rfl
@[simp] theorem chimeTrigger_reqBrightness : (s.chimeTrigger).reqBrightness = s.reqBrightness := rfl
@[simp] theorem chimeTrigger_brightness : (s.chimeTrigger).brightness = s.brightness := rfl
@[simp] theorem chimeTrigger_panelEnabled : (s.chimeTrigger).panelEnabled = s.panelEnabled := rfl
@[simp] theorem chimeTrigger_hostTimer : (s.chimeTrigger).hostTimer = s.hostTimer := rfl
@[simp] theorem chimeTrigger_buttonTest : (s.chimeTrigger).buttonTest = s.buttonTest := rfl
@[simp] theorem chimeTrigger_frame : (s.chimeTrigger).frame = s.frame := rfl
@[simp] theorem chimeTrigger_classOptions : (s.chimeTrigger).classOptions = s.classOptions := rfl
@[simp] theorem chimeTrigger_horn : (s.chimeTrigger).horn = s.horn := rfl
@[simp] theorem chimeTrigger_causes : (s.chimeTrigger).causes = s.causes := rfl
@[simp] theorem chimeTrigger_enables : (s.chimeTrigger).enables = s.enables := rfl
@[simp] theorem chimeTrigger_attn : (s.chimeTrigger).attn = s.attn := rfl
@[simp] theorem chimeTrigger_link : (s.chimeTrigger).link = s.link := rfl
@[simp] theorem chimeTrigger_phaseAhead : (s.chimeTrigger).phaseAhead = s.phaseAhead := rfl
@[simp] theorem chimeTrigger_second : (s.chimeTrigger).second = s.second := rfl
@[simp] theorem chimeTrigger_orderIndex : (s.chimeTrigger).orderIndex = s.orderIndex := rfl

/-! ### increaseUptime -/

@[simp] theorem increaseUptime_pending : (s.increaseUptime).pending = s.pending := rfl
@[simp] theorem increaseUptime_periodCount : (s.increaseUptime).periodCount = s.periodCount := rfl
@[simp] theorem increaseUptime_tickCount : (s.increaseUptime).tickCount = s.tickCount := rfl
@[simp] theorem increaseUptime_phase : (s.increaseUptime).phase = s.phase := rfl
@[simp] theorem increaseUptime_frameCount : (s.increaseUptime).frameCount = s.frameCount := rfl
@[simp] theorem increaseUptime_lines : (s.increaseUptime).lines = s.lines := rfl
@[simp] theorem increaseUptime_chatterLimit : (s.increaseUptime).chatterLimit = s.chatterLimit := rfl
@[simp] theorem increaseUptime_buttons : (s.increaseUptime).buttons = s.buttons := rfl
@[simp] theorem increaseUptime_lockMask : (s.increaseUptime).lockMask = s.lockMask := rfl
@[simp] theorem increaseUptime_points : (s.increaseUptime).points = s.points := rfl
@[simp] theorem increaseUptime_standing : (s.increaseUptime).standing = s.standing := rfl
@[simp] theorem increaseUptime_lgen : (s.increaseUptime).lgen = s.lgen := rfl
@[simp] theorem increaseUptime_cursor : (s.increaseUptime).cursor = s.cursor := rfl
@[simp] theorem increaseUptime_mark : (s.increaseUptime).mark = s.mark := rfl
@[simp] theorem increaseUptime_groups : (s.increaseUptime).groups = s.groups := rfl
@[simp] theorem increaseUptime_slots : (s.increaseUptime).slots = s.slots := rfl
@[simp] theorem increaseUptime_bankA : (s.increaseUptime).bankA = s.bankA := rfl
@[simp] theorem increaseUptime_bankB : (s.increaseUptime).bankB = s.bankB := rfl
@[simp] theorem increaseUptime_live : (s.increaseUptime).live = s.live := rfl
@[simp] theorem increaseUptime_swapPending : (s.increaseUptime).swapPending = s.swapPending := rfl
@[simp] theorem increaseUptime_reqBrightness : (s.increaseUptime).reqBrightness = s.reqBrightness := rfl
@[simp] theorem increaseUptime_brightness : (s.increaseUptime).brightness = s.brightness := rfl
@[simp] theorem increaseUptime_panelEnabled : (s.increaseUptime).panelEnabled = s.panelEnabled := rfl
@[simp] theorem increaseUptime_hostTimer : (s.increaseUptime).hostTimer = s.hostTimer := rfl
@[simp] theorem increaseUptime_buttonTest : (s.increaseUptime).buttonTest = s.buttonTest := rfl
@[simp] theorem increaseUptime_frame : (s.increaseUptime).frame = s.frame := rfl
@[simp] theorem increaseUptime_classOptions : (s.increaseUptime).classOptions = s.classOptions := rfl
@[simp] theorem increaseUptime_chimeTimer : (s.increaseUptime).chimeTimer = s.chimeTimer := rfl
@[simp] theorem increaseUptime_horn : (s.increaseUptime).horn = s.horn := rfl
@[simp] theorem increaseUptime_causes : (s.increaseUptime).causes = s.causes := rfl
@[simp] theorem increaseUptime_enables : (s.increaseUptime).enables = s.enables := rfl
@[simp] theorem increaseUptime_attn : (s.increaseUptime).attn = s.attn := rfl
@[simp] theorem increaseUptime_link : (s.increaseUptime).link = s.link := rfl
@[simp] theorem increaseUptime_phaseAhead : (s.increaseUptime).phaseAhead = s.phaseAhead := rfl
@[simp] theorem increaseUptime_second : (s.increaseUptime).second = s.second := rfl
@[simp] theorem increaseUptime_orderIndex : (s.increaseUptime).orderIndex = s.orderIndex := rfl

/-! ### countListChange -/

@[simp] theorem countListChange_pending : (s.countListChange).pending = s.pending := rfl
@[simp] theorem countListChange_periodCount : (s.countListChange).periodCount = s.periodCount := rfl
@[simp] theorem countListChange_tickCount : (s.countListChange).tickCount = s.tickCount := rfl
@[simp] theorem countListChange_uptime : (s.countListChange).uptime = s.uptime := rfl
@[simp] theorem countListChange_phase : (s.countListChange).phase = s.phase := rfl
@[simp] theorem countListChange_frameCount : (s.countListChange).frameCount = s.frameCount := rfl
@[simp] theorem countListChange_lines : (s.countListChange).lines = s.lines := rfl
@[simp] theorem countListChange_chatterLimit : (s.countListChange).chatterLimit = s.chatterLimit := rfl
@[simp] theorem countListChange_buttons : (s.countListChange).buttons = s.buttons := rfl
@[simp] theorem countListChange_lockMask : (s.countListChange).lockMask = s.lockMask := rfl
@[simp] theorem countListChange_points : (s.countListChange).points = s.points := rfl
@[simp] theorem countListChange_standing : (s.countListChange).standing = s.standing := rfl
@[simp] theorem countListChange_cursor : (s.countListChange).cursor = s.cursor := rfl
@[simp] theorem countListChange_mark : (s.countListChange).mark = s.mark := rfl
@[simp] theorem countListChange_groups : (s.countListChange).groups = s.groups := rfl
@[simp] theorem countListChange_slots : (s.countListChange).slots = s.slots := rfl
@[simp] theorem countListChange_bankA : (s.countListChange).bankA = s.bankA := rfl
@[simp] theorem countListChange_bankB : (s.countListChange).bankB = s.bankB := rfl
@[simp] theorem countListChange_live : (s.countListChange).live = s.live := rfl
@[simp] theorem countListChange_swapPending : (s.countListChange).swapPending = s.swapPending := rfl
@[simp] theorem countListChange_reqBrightness : (s.countListChange).reqBrightness = s.reqBrightness := rfl
@[simp] theorem countListChange_brightness : (s.countListChange).brightness = s.brightness := rfl
@[simp] theorem countListChange_panelEnabled : (s.countListChange).panelEnabled = s.panelEnabled := rfl
@[simp] theorem countListChange_hostTimer : (s.countListChange).hostTimer = s.hostTimer := rfl
@[simp] theorem countListChange_buttonTest : (s.countListChange).buttonTest = s.buttonTest := rfl
@[simp] theorem countListChange_frame : (s.countListChange).frame = s.frame := rfl
@[simp] theorem countListChange_classOptions : (s.countListChange).classOptions = s.classOptions := rfl
@[simp] theorem countListChange_chimeTimer : (s.countListChange).chimeTimer = s.chimeTimer := rfl
@[simp] theorem countListChange_horn : (s.countListChange).horn = s.horn := rfl
@[simp] theorem countListChange_enables : (s.countListChange).enables = s.enables := rfl
@[simp] theorem countListChange_link : (s.countListChange).link = s.link := rfl
@[simp] theorem countListChange_phaseAhead : (s.countListChange).phaseAhead = s.phaseAhead := rfl
@[simp] theorem countListChange_second : (s.countListChange).second = s.second := rfl
@[simp] theorem countListChange_orderIndex : (s.countListChange).orderIndex = s.orderIndex := rfl

/-! ### Reading back -/

@[simp] theorem point_setPoint_self (p : PointNo) (r : PointRec) : (s.setPoint p r).point p = r := by
  simp [State.point, State.setPoint]

theorem point_setPoint_ne {p q : PointNo} (r : PointRec) (h : q ≠ p) : (s.setPoint p r).point q = s.point q := by
  have hv : p.val ≠ q.val := fun e => h (Fin.ext e.symm)
  simp [State.point, State.setPoint, Vector.getElem_set_ne, hv]

theorem point_setPoint (p q : PointNo) (r : PointRec) :
    (s.setPoint p r).point q = if q = p then r else s.point q := by
  by_cases h : q = p
  · subst h; simp
  · simp [h, point_setPoint_ne]

@[simp] theorem groupRec_setGroup_self (g : GroupNo) (r : GroupRec) : (s.setGroup g r).groupRec g = r := by
  simp [State.groupRec, State.setGroup]

theorem groupRec_setGroup_ne {g h : GroupNo} (r : GroupRec) (hne : h ≠ g) :
    (s.setGroup g r).groupRec h = s.groupRec h := by
  have hv : g.val ≠ h.val := fun e => hne (Fin.ext e.symm)
  simp [State.groupRec, State.setGroup, Vector.getElem_set_ne, hv]

@[simp] theorem slot_setSlot_self (k : SlotNo) (r : Option SlotRec) : (s.setSlot k r).slot k = r := by
  simp [State.slot, State.setSlot]

theorem slot_setSlot_ne {k j : SlotNo} (r : Option SlotRec) (h : j ≠ k) : (s.setSlot k r).slot j = s.slot j := by
  have hv : k.val ≠ j.val := fun e => h (Fin.ext e.symm)
  simp [State.slot, State.setSlot, Vector.getElem_set_ne, hv]

@[simp] theorem groupRec_setPoint (p : PointNo) (r : PointRec) (g : GroupNo) :
    (s.setPoint p r).groupRec g = s.groupRec g := rfl
@[simp] theorem slot_setPoint (p : PointNo) (r : PointRec) (k : SlotNo) : (s.setPoint p r).slot k = s.slot k := rfl
@[simp] theorem classOption_setPoint (p : PointNo) (r : PointRec) (c : ClassNo) :
    (s.setPoint p r).classOption c = s.classOption c := rfl
@[simp] theorem isListed_setPoint (p q : PointNo) (r : PointRec) : (s.setPoint p r).isListed q = s.isListed q := rfl
@[simp] theorem point_setGroup (g : GroupNo) (r : GroupRec) (p : PointNo) : (s.setGroup g r).point p = s.point p := rfl
@[simp] theorem point_setSlot (k : SlotNo) (r : Option SlotRec) (p : PointNo) :
    (s.setSlot k r).point p = s.point p := rfl
@[simp] theorem point_setCause (c : Cause) (p : PointNo) : (s.setCause c).point p = s.point p := rfl
@[simp] theorem point_countListChange (p : PointNo) : s.countListChange.point p = s.point p := rfl
@[simp] theorem point_refreshHorn (p : PointNo) : s.refreshHorn.point p = s.point p := rfl

theorem mem_standing_iff_isListed (p : PointNo) : p ∈ s.standing ↔ s.isListed p = true := by
  simp [State.isListed]

/-! ### What the levels are -/

/-- R125: the level of HORN. -/
theorem hornLevel_iff : s.hornLevel = true ↔
    ∃ p, (s.point p).sounding = true ∧ (s.classOption (s.point p).cls).horn = true := by
  simp [State.hornLevel, allPoints]

/-- R160: the level of ATTNn. -/
theorem attnLevel_iff : s.attnLevel = true ↔
    ∃ i : Fin 8, s.causes.getLsbD i.val = true ∧ s.enables.getLsbD i.val = true := by
  have h : (s.causes &&& s.enables ≠ 0#8) ↔ ∃ i : Fin 8, (s.causes &&& s.enables).getLsbD i.val = true := by
    constructor
    · intro hne
      by_contra hall
      push Not at hall
      apply hne
      apply BitVec.eq_of_getLsbD_eq
      intro i hi
      have := hall ⟨i, hi⟩
      simpa using this
    · rintro ⟨i, hi⟩ he
      rw [he] at hi
      simp at hi
  simpa [State.attnLevel] using h

/-- Setting a cause leaves ATTNn at its level (R160). -/
theorem setCause_attn (c : Cause) : (s.setCause c).attn = (s.setCause c).attnLevel := rfl

/-- Setting a cause adds its bit and no other (R157). -/
theorem setCause_causes (c : Cause) : (s.setCause c).causes = s.causes ||| c.bit := rfl

/-- A change of the list counts one, sets LIST and moves nothing else (R87). -/
theorem countListChange_lgen : s.countListChange.lgen = s.lgen + 1#16 := rfl

end Sys2Proof.Machine
end

