-- ==== Sys2Proof/Laws/Frame.lean ====
section
/-!
SUPPORT. What the sequence engine and the units it reports to can touch (R41): the point records, the list with its cursor
and mark, the groups, HORN, the chime and the causes, and nothing else of the device. One lemma for each shared operation.
-/

namespace Sys2Proof.Machine

/-- `t` differs from `s` in the fields that a change of state reports to, and in no other. -/
def SeqFrame (s t : State) : Prop :=
  t = { s with
    points := t.points, standing := t.standing, lgen := t.lgen, cursor := t.cursor, mark := t.mark, groups := t.groups,
    horn := t.horn, chimeTimer := t.chimeTimer, causes := t.causes, attn := t.attn }

namespace SeqFrame

theorem refl (s : State) : SeqFrame s s := rfl

theorem trans {s t u : State} (h₁ : SeqFrame s t) (h₂ : SeqFrame t u) : SeqFrame s u := by
  unfold SeqFrame at *
  rw [h₂, h₁]

/-- The frame through a fold of steps that keep it. -/
theorem foldl {α : Type} {f : State → α → State} (hf : ∀ s a, SeqFrame s (f s a)) (l : List α) (s : State) :
    SeqFrame s (l.foldl f s) := by
  induction l generalizing s with
  | nil => exact refl s
  | cons a l ih => exact (hf s a).trans (ih (f s a))

variable {s t : State}

theorem link_eq (h : SeqFrame s t) : t.link = s.link := by rw [h]
theorem pending_eq (h : SeqFrame s t) : t.pending = s.pending := by rw [h]
theorem uptime_eq (h : SeqFrame s t) : t.uptime = s.uptime := by rw [h]
theorem lines_eq (h : SeqFrame s t) : t.lines = s.lines := by rw [h]
theorem chatterLimit_eq (h : SeqFrame s t) : t.chatterLimit = s.chatterLimit := by rw [h]
theorem buttons_eq (h : SeqFrame s t) : t.buttons = s.buttons := by rw [h]
theorem lockMask_eq (h : SeqFrame s t) : t.lockMask = s.lockMask := by rw [h]
theorem slots_eq (h : SeqFrame s t) : t.slots = s.slots := by rw [h]
theorem hostTimer_eq (h : SeqFrame s t) : t.hostTimer = s.hostTimer := by rw [h]
theorem buttonTest_eq (h : SeqFrame s t) : t.buttonTest = s.buttonTest := by rw [h]
theorem classOptions_eq (h : SeqFrame s t) : t.classOptions = s.classOptions := by rw [h]
theorem enables_eq (h : SeqFrame s t) : t.enables = s.enables := by rw [h]
theorem bankA_eq (h : SeqFrame s t) : t.bankA = s.bankA := by rw [h]
theorem bankB_eq (h : SeqFrame s t) : t.bankB = s.bankB := by rw [h]
theorem live_eq (h : SeqFrame s t) : t.live = s.live := by rw [h]
theorem swapPending_eq (h : SeqFrame s t) : t.swapPending = s.swapPending := by rw [h]
theorem orderIndex_eq (h : SeqFrame s t) : t.orderIndex = s.orderIndex := by rw [h]
theorem second_eq (h : SeqFrame s t) : t.second = s.second := by rw [h]

end SeqFrame

variable (s : State)

/-! ### One unit's act -/

theorem setPoint_seqFrame (p : PointNo) (r : PointRec) : SeqFrame s (s.setPoint p r) := rfl
theorem setGroup_seqFrame (g : GroupNo) (r : GroupRec) : SeqFrame s (s.setGroup g r) := rfl
theorem setCause_seqFrame (c : Cause) : SeqFrame s (s.setCause c) := rfl
theorem refreshHorn_seqFrame : SeqFrame s s.refreshHorn := rfl
theorem refreshAttn_seqFrame : SeqFrame s s.refreshAttn := rfl
theorem chimeTrigger_seqFrame : SeqFrame s s.chimeTrigger := rfl
theorem countListChange_seqFrame : SeqFrame s s.countListChange := rfl
theorem listInsert_seqFrame (p : PointNo) : SeqFrame s (s.listInsert p) := rfl
theorem listRemove_seqFrame (p : PointNo) : SeqFrame s (s.listRemove p) := rfl
theorem listMove_seqFrame (p : PointNo) : SeqFrame s (s.listMove p) := rfl
theorem groupNotice_seqFrame (n : Notice) (q : PointNo) : SeqFrame s (s.groupNotice n q) := rfl
theorem recordChange_seqFrame (p : PointNo) (tr : Transition) : SeqFrame s (s.recordChange p tr) := rfl
theorem enterList_seqFrame (p : PointNo) : SeqFrame s (s.enterList p) := rfl

theorem pointChime_seqFrame (p : PointNo) : SeqFrame s (s.pointChime p) := by
  unfold State.pointChime
  split <;> rfl

theorem leaveList_seqFrame (p : PointNo) : SeqFrame s (s.leaveList p) := by
  unfold State.leaveList
  split <;> rfl

/-! ### A change of state (R41) -/

theorem reportList_seqFrame (p : PointNo) (old new : AnnState) : SeqFrame s (s.reportList p old new) := by
  unfold State.reportList
  split
  · dsimp only
    split
    · exact (enterList_seqFrame s p).trans (groupNotice_seqFrame _ _ _)
    · exact enterList_seqFrame s p
  · split
    · exact (leaveList_seqFrame s p).trans (groupNotice_seqFrame _ _ _)
    · exact SeqFrame.refl s

theorem reportAudible_seqFrame (p : PointNo) (new : AnnState) (b : Bool) : SeqFrame s (s.reportAudible p new b) := by
  have h : SeqFrame s (if b then s.refreshHorn else s) := by split <;> rfl
  unfold State.reportAudible
  cases new with
  | quiet => exact h
  | alarmAcked => exact h
  | alarmNew => exact h.trans (setCause_seqFrame _ _)
  | clearedNew => exact (h.trans (pointChime_seqFrame _ p)).trans (setCause_seqFrame _ _)
  | ringback => exact (h.trans (pointChime_seqFrame _ p)).trans (setCause_seqFrame _ _)

theorem applyTransition_seqFrame (p : PointNo) (tr : Transition) : SeqFrame s (s.applyTransition p tr) :=
  ((recordChange_seqFrame s p tr).trans (reportList_seqFrame _ _ _ _)).trans (reportAudible_seqFrame _ _ _ _)

/-- An event either meets no row of its table and changes nothing, or makes the change of the row it meets (R38). -/
theorem seqEvent_cases (p : PointNo) (ev : SeqEvent) :
    (s.transition? p ev = none ∧ s.seqEvent p ev = s) ∨
      ∃ tr, s.transition? p ev = some tr ∧ s.seqEvent p ev = s.applyTransition p tr := by
  unfold State.seqEvent
  cases h : s.transition? p ev with
  | none => exact .inl ⟨rfl, rfl⟩
  | some tr => exact .inr ⟨tr, rfl, rfl⟩

theorem seqEvent_seqFrame (p : PointNo) (ev : SeqEvent) : SeqFrame s (s.seqEvent p ev) := by
  rcases seqEvent_cases s p ev with ⟨-, h⟩ | ⟨tr, -, h⟩
  · rw [h]; exact SeqFrame.refl s
  · rw [h]; exact applyTransition_seqFrame s p tr

theorem arriveIfOffNormal_seqFrame (p : PointNo) : SeqFrame s (s.arriveIfOffNormal p) := by
  unfold State.arriveIfOffNormal
  split
  · exact seqEvent_seqFrame s p _
  · exact SeqFrame.refl s

theorem deliver_seqFrame (p : PointNo) (c : Condition) : SeqFrame s (s.deliver p c) :=
  (setPoint_seqFrame s p _).trans (seqEvent_seqFrame _ p _)

/-! ### Actions with a scope (R49) -/

theorem actAt_seqFrame (ev : SeqEvent) (sn : State × Nat) (p : PointNo) : SeqFrame sn.1 (actAt ev sn p).1 := by
  unfold actAt
  split
  · exact applyTransition_seqFrame _ _ _
  · exact SeqFrame.refl _

theorem foldl_actAt_seqFrame (ev : SeqEvent) (ps : List PointNo) (sn : State × Nat) :
    SeqFrame sn.1 (ps.foldl (actAt ev) sn).1 := by
  induction ps generalizing sn with
  | nil => exact SeqFrame.refl _
  | cons p ps ih => exact (actAt_seqFrame ev sn p).trans (ih _)

theorem actOn_seqFrame (ev : SeqEvent) (ps : List PointNo) : SeqFrame s (s.actOn ev ps).1 :=
  foldl_actAt_seqFrame ev ps (s, 0)

theorem silenceAll_seqFrame : SeqFrame s s.silenceAll :=
  (SeqFrame.foldl (fun s p => setPoint_seqFrame s p _) allPoints s).trans (refreshHorn_seqFrame _)

theorem shelveNotice_seqFrame (p : PointNo) : SeqFrame s (s.shelveNotice p) :=
  (((setPoint_seqFrame s p _).trans (leaveList_seqFrame _ p)).trans (groupNotice_seqFrame _ _ p)).trans
    (refreshHorn_seqFrame _)

theorem reannounce_seqFrame : SeqFrame s s.reannounce := SeqFrame.foldl arriveIfOffNormal_seqFrame allPoints s

end Sys2Proof.Machine
end

