-- ==== Sys2Proof/Laws/Link.lean ====
section
/-!
SUPPORT. What the row of a host command does, once for all of them: in each phase of the link, and for a command whose unit
does not read the link (R162 to R169).
-/

namespace Sys2Proof.Machine

variable {s : State} {c : Instr} {body : State → State × Answer}

/-- Within a transaction the command is taken (R163). -/
theorem hostCommand_receiving (h : s.link.phase = .receiving) :
    hostCommand c body s = .next (s.takeCommand (c.mosiBytes.getD []) body) := by
  simp [hostCommand, h]

/-- With no transaction in progress the row is its whole transaction (log entry 7). -/
theorem hostCommand_idle (h : s.link.phase = .idle) :
    hostCommand c body s = .next (s.openTransaction.takeCommand (c.mosiBytes.getD []) body).raiseCs := by
  simp [hostCommand, h]

/-- After a command has been taken, and in a low period that is no transaction, the bytes are ignored (R165, R169). -/
theorem hostCommand_ignored (h : s.link.phase = .taken ∨ s.link.phase = .ignored) : hostCommand c body s = .next s := by
  rcases h with h | h <;> simp [hostCommand, h]

/-- A host command always answers a next state. -/
theorem hostCommand_next (c : Instr) (body : State → State × Answer) (s : State) :
    ∃ t, hostCommand c body s = .next t := by
  unfold hostCommand
  dsimp only
  split <;> exact ⟨_, rfl⟩

/-- The link's part of a command and the unit's part stand apart: where the unit's act on `s`, whatever the link holds, gives
`s'` and the answer `a`, the row gives `s'` with the link as the answer leaves it. Every host command's meaning is read
through this lemma. -/
theorem hostCommand_answered {s' : State} {a : Answer} (hr : s.Ready)
    (hb : ∀ l : Link, body { s with link := l } = ({ s' with link := l }, a)) :
    hostCommand c body s = .next { s' with link := s.answered c a.result a.data } := by
  rcases hr with h | h
  · rw [hostCommand_idle h]
    have h1 : body s.openTransaction = ({ s' with link := s.openTransaction.link }, a) := hb s.openTransaction.link
    unfold State.takeCommand
    rw [h1]
    simp [State.raiseCs, State.answered, State.openTransaction, h]
  · rw [hostCommand_receiving h]
    have h1 : body s = ({ s' with link := s.link }, a) := hb s.link
    unfold State.takeCommand
    rw [h1]
    simp [State.answered, h]

/-- A command that its unit refuses whatever the link holds changes the link alone (R166). -/
theorem hostCommand_refused {r : Result} (hr : s.Ready)
    (hb : ∀ l : Link, body { s with link := l } = refuse r { s with link := l }) :
    hostCommand c body s = .next { s with link := s.answered c r [] } :=
  hostCommand_answered (s' := s) (a := ⟨r, []⟩) hr hb

/-- LASTERR after an answer is bit 7 of its result code (R166, E.2). -/
theorem setsLastErr_eq_code (r : Result) : r.setsLastErr = r.code.getLsbD 7 := by
  cases r <;> rfl

/-- The rise of CSn touches the link alone. -/
theorem raiseCs_eq (s : State) : s.raiseCs = { s with link := s.raiseCs.link } := by
  unfold State.raiseCs
  split <;> rfl

/-- The falling edge of CSn touches the link alone. -/
theorem openTransaction_eq (s : State) : s.openTransaction = { s with link := s.openTransaction.link } := rfl

end Sys2Proof.Machine
end

