-- ==== Sys2Proof/Laws/Lists.lean ====
section
/-!
SUPPORT. What the list unit's two list functions do: an insertion adds one entry at the end of its class segment (R84), and
the successor is the entry that follows (R85, R92).
-/

namespace Sys2Proof.Machine

/-- An insertion adds `p` and no other entry. -/
theorem mem_insertAfterLast (upTo : PointNo → Bool) (p q : PointNo) (l : List PointNo) :
    q ∈ insertAfterLast upTo p l ↔ q = p ∨ q ∈ l := by
  induction l with
  | nil => simp [insertAfterLast]
  | cons a l ih =>
    by_cases h : (upTo a || l.any upTo) = true
    · simp only [insertAfterLast, h, if_true, List.mem_cons, ih]
      tauto
    · simp only [insertAfterLast, h, List.mem_cons]
      simp

/-- An insertion of an unlisted point keeps the list free of repeats (R82). -/
theorem nodup_insertAfterLast (upTo : PointNo → Bool) {p : PointNo} {l : List PointNo} (hp : p ∉ l) (hl : l.Nodup) :
    (insertAfterLast upTo p l).Nodup := by
  induction l with
  | nil => simp [insertAfterLast]
  | cons a l ih =>
    have ha := List.nodup_cons.1 hl
    have hpl : p ∉ l := fun h => hp (List.mem_cons_of_mem _ h)
    have hpa : a ≠ p := fun h => hp (h ▸ List.mem_cons_self)
    by_cases h : (upTo a || l.any upTo) = true
    · simp only [insertAfterLast, h, if_true, List.nodup_cons, mem_insertAfterLast]
      exact ⟨by rintro (rfl | h); exacts [hpa rfl, ha.1 h], ih hpl ha.2⟩
    · simp only [insertAfterLast, h]
      exact List.nodup_cons.2 ⟨hp, hl⟩

/-- On a list in class order the entry goes after every entry of an equal or lower class number and before all the others
(R83, R84). -/
theorem insertAfterLast_of_ordered (rank : PointNo → ClassNo) (c : ClassNo) (p : PointNo) {l : List PointNo}
    (h : l.Pairwise fun a b => rank a ≤ rank b) :
    insertAfterLast (fun q => decide (rank q ≤ c)) p l =
      l.filter (fun q => decide (rank q ≤ c)) ++ p :: l.filter (fun q => decide (c < rank q)) := by
  induction l with
  | nil => simp [insertAfterLast]
  | cons a l ih =>
    obtain ⟨ha, hl⟩ := List.pairwise_cons.1 h
    by_cases hac : rank a ≤ c
    · have hnot : ¬ c < rank a := not_lt.2 hac
      simp [insertAfterLast, hac, hnot, ih hl]
    · have hlt : c < rank a := not_le.1 hac
      have hall : ∀ b ∈ l, c < rank b := fun b hb => lt_of_lt_of_le hlt (ha b hb)
      have hany : l.any (fun q => decide (rank q ≤ c)) = false := by
        simpa using hall
      have hle : l.filter (fun q => decide (rank q ≤ c)) = [] := by
        simpa [List.filter_eq_nil_iff] using hall
      have hgt : l.filter (fun q => decide (c < rank q)) = l := by
        simpa [List.filter_eq_self] using hall
      simp [insertAfterLast, hac, hlt, hany, hle, hgt]

/-- An insertion into a list in class order leaves it in class order (R83). -/
theorem insertAfterLast_ordered (rank : PointNo → ClassNo) (p : PointNo) {l : List PointNo}
    (h : l.Pairwise fun a b => rank a ≤ rank b) :
    (insertAfterLast (fun q => decide (rank q ≤ rank p)) p l).Pairwise fun a b => rank a ≤ rank b := by
  rw [insertAfterLast_of_ordered rank (rank p) p h]
  refine List.pairwise_append.2 ⟨h.filter _, ?_, ?_⟩
  · refine List.pairwise_cons.2 ⟨?_, h.filter _⟩
    intro b hb
    exact le_of_lt (by simpa using (List.mem_filter.1 hb).2)
  · intro a ha b hb
    have ha' : rank a ≤ rank p := by simpa using (List.mem_filter.1 ha).2
    rcases List.mem_cons.1 hb with rfl | hb
    · exact ha'
    · exact ha'.trans (le_of_lt (by simpa using (List.mem_filter.1 hb).2))

/-- The successor is the first entry after that of `p` (R85, R92). -/
theorem successor_eq_dropWhile (p : PointNo) (l : List PointNo) :
    successor p l = ((l.dropWhile fun q => decide (q ≠ p)).drop 1).head? := by
  induction l with
  | nil => rfl
  | cons a l ih =>
    by_cases h : a = p
    · simp [successor, h]
    · simp [successor, h, ih]

/-- The successor is an entry of the list, or END. -/
theorem successor_mem {p q : PointNo} {l : List PointNo} (h : successor p l = some q) : q ∈ l := by
  induction l with
  | nil => simp [successor] at h
  | cons a l ih =>
    by_cases ha : a = p
    · simp only [successor, ha, if_true] at h
      exact List.mem_cons_of_mem _ (List.mem_of_mem_head? (by simpa using h))
    · simp only [successor, ha, if_false] at h
      exact List.mem_cons_of_mem _ (ih h)

/-- The successor is another entry, where no entry stands twice. -/
theorem successor_ne {p q : PointNo} {l : List PointNo} (hl : l.Nodup) (h : successor p l = some q) : q ≠ p := by
  induction l with
  | nil => simp [successor] at h
  | cons a l ih =>
    obtain ⟨ha, hl'⟩ := List.nodup_cons.1 hl
    by_cases hp : a = p
    · simp only [successor, hp, if_true] at h
      have hq : q ∈ l := List.mem_of_mem_head? (by simpa using h)
      rintro rfl
      exact ha (hp ▸ hq)
    · simp only [successor, hp, if_false] at h
      exact ih hl' h

end Sys2Proof.Machine
end

