-- ==== Sys2Proof/Laws/Ops.lean ====
section
/-!
SUPPORT. What each shared operation does, in the closed forms of Outcomes.lean: one lemma for each.
-/

namespace Sys2Proof.Machine

variable (s : State)

/-- Setting a cause is setting its bit (R157, R160). -/
theorem setCause_eq_withCauses (c : Cause) : s.setCause c = s.withCauses c.bit := by
  have h : c.bit ≠ 0#8 := by cases c <;> decide
  simp [State.setCause, State.refreshAttn, State.attnLevel, State.withCauses, h]

/-- Causes set one after the other are set together. -/
theorem withCauses_withCauses (a b : Byte) : (s.withCauses a).withCauses b = s.withCauses (a ||| b) := by
  by_cases ha : a = 0#8
  · subst ha; simp [State.withCauses]
  · by_cases hb : b = 0#8
    · subst hb; simp [State.withCauses, ha]
    · have hab : a ||| b ≠ 0#8 := by
        intro h
        exact ha (BitVec.or_eq_zero_iff.1 h).1
      simp [State.withCauses, hb, hab, BitVec.or_assoc]

/-- The level of HORN over the records as they stand (R125). -/
theorem hornLevel_eq_hornWith : s.hornLevel = s.hornWith s.points := rfl

/-- Quiet over the list as it stands (R69). -/
theorem groupQuiet_eq_quietWith (g : GroupNo) : s.groupQuiet g = s.quietWith g s.standing := by
  unfold State.groupQuiet State.quietWith
  congr 1
  funext q
  by_cases h : (s.point q).group = g <;> by_cases h' : (s.point q).seqType = .status <;> simp [h, h']

/-- The successor is the entry after (R85, R92). -/
theorem successor_eq_entryAfter (p : PointNo) (l : List PointNo) : successor p l = entryAfter p l :=
  successor_eq_dropWhile p l

/-- A removal of a listed point (R85). -/
theorem listRemove_eq (p : PointNo) : s.listRemove p =
    { s with
      standing := withoutEntry p s.standing
      cursor := if s.cursor = some p then entryAfter p s.standing else s.cursor
      mark := if s.mark = Mark.entry p then .lost else s.mark
      lgen := s.lgen + 1#16 }.withCauses 0x20#8 := by
  have h : (fun q : PointNo => q != p) = fun q => decide (q ≠ p) := by
    funext q
    by_cases hq : q = p <;> simp [hq]
  simp only [State.listRemove, State.countListChange, setCause_eq_withCauses, Cause.bit, successor_eq_entryAfter,
    withoutEntry, h]

/-- An insertion into a list in class order (R84). -/
theorem listInsert_eq (p : PointNo) (h : s.ClassOrderLaw) : s.listInsert p =
    { s with
      standing := s.endOfClass p (s.point p).cls s.standing
      lgen := s.lgen + 1#16 }.withCauses 0x20#8 := by
  have e : insertAfterLast (s.upToClass (s.point p).cls) p s.standing =
      s.endOfClass p (s.point p).cls s.standing :=
    insertAfterLast_of_ordered (fun q => (s.point q).cls) (s.point p).cls p h
  simp only [State.listInsert, State.countListChange, setCause_eq_withCauses, Cause.bit, e]

/-- A notice moves the first-out state of one group and nothing else (R70). -/
theorem groupNotice_eq (n : Notice) (q : PointNo) : s.groupNotice n q =
    s.setGroup (s.point q).group
      { s.groupRec (s.point q).group with
        firstOut := noticeTable n q (s.quietWith (s.point q).group s.standing)
          (s.groupRec (s.point q).group).firstOut } := by
  simp only [State.groupNotice, groupQuiet_eq_quietWith]

/-- A group that takes no part in first-out takes no notice (R70). -/
theorem noticeTable_off (n : Notice) (q : PointNo) (b : Bool) : noticeTable n q b .off = .off := by
  cases n <;> rfl

/-- A shelve or removal notice, by R70. -/
theorem noticeTable_withdrawn (q : PointNo) (b : Bool) (f : FirstOut) : noticeTable .withdrawn q b f =
    if f = .off then .off else if b then .armed else if f = .held q then .spent else f := by
  cases f with
  | held p =>
    by_cases h : q = p
    · subst h; cases b <;> simp [noticeTable]
    · have h' : p ≠ q := fun e => h e.symm
      cases b <;> simp [noticeTable, h, h']
  | off => rfl
  | armed => cases b <;> rfl
  | spent => cases b <;> rfl

/-- A left-list notice, by R70. -/
theorem noticeTable_leftList (q : PointNo) (b : Bool) (f : FirstOut) : noticeTable .leftList q b f =
    if b ∧ f ≠ .off then .armed else f := by
  cases f <;> cases b <;> simp [noticeTable]

/-- A new-alert notice, by R70. -/
theorem noticeTable_newAlert (q : PointNo) (b : Bool) (f : FirstOut) : noticeTable .newAlert q b f =
    if f = .armed then .held q else f := by
  cases f <;> simp [noticeTable]

/-- The end of a button test (R120, R146). -/
theorem endButtonTest_eq : s.endButtonTest = s.testReleased := by
  unfold State.endButtonTest State.testReleased
  cases hb : s.buttonTest with
  | false => rfl
  | true =>
    by_cases ht : s.hostTimer = 0
    · simp [State.lampTestCeased, State.lampTestOn, ht, setCause_eq_withCauses, Cause.bit]
    · have hp : 0 < s.hostTimer := Nat.pos_of_ne_zero ht
      simp [State.lampTestCeased, State.lampTestOn, ht, hp, State.withCauses]

/-- The end of a running host test (R146, R147). -/
theorem stopHostTest_eq (h : 0 < s.hostTimer) :
    s.stopHostTest = { s with hostTimer := 0 }.withCauses (if s.buttonTest then 0#8 else 0x80#8) := by
  cases hb : s.buttonTest <;>
    simp [State.stopHostTest, h, State.lampTestCeased, State.lampTestOn, hb, setCause_eq_withCauses, Cause.bit,
      State.withCauses]

/-- The uptime increase holds at FFFFFFFEH (R154). -/
theorem increaseUptime_eq (h : s.uptime ≤ 0xFFFFFFFE) :
    s.increaseUptime = { s with uptime := uptimeAfter s.uptime } := by
  have e : (if s.uptime < uptimeMax then s.uptime + 1 else s.uptime) = uptimeAfter s.uptime := by
    unfold uptimeMax uptimeAfter
    split <;> omega
  simp only [State.increaseUptime, e]

/-- A sampled condition, by polarity (R2). -/
theorem polarity_read_eq (lines : BitVec 32) (k : LineNo) (pol : Polarity) :
    pol.read (lines.getLsbD k.val) = sampledCondition lines k pol := by
  unfold sampledCondition
  cases pol <;> cases lines.getLsbD k.val <;> rfl

end Sys2Proof.Machine
end

