-- ==== Sys2Proof/Laws/PerInstr.lean ====
section
/-!
SUPPORT. Facts about the syntax of the commands, one lemma for each constructor.
-/

/-- The bytes that a well-formed host command sends are its command byte and as many parameter bytes as the catalogue gives
for that byte; an unknown command sends its byte alone (R163, R170, section D and E.1). -/
def Sys2Proof.Laws.CatalogueBytes.Statement (c : Sys2Proof.Instr) : Prop :=
  ∀ sent, c.wellFormed = true → c.mosiBytes = some sent →
    ∃ code params, sent = code :: params ∧ (Sys2Proof.paramCount code).getD 0 = params.length

namespace Sys2Proof.Laws.CatalogueBytes

theorem hardReset (csLow : Bool) :
    Statement (.hardReset csLow) := by
  intro sent _ h
  cases h

theorem tick :
    Statement (.tick) := by
  intro sent _ h
  cases h

theorem sample (lines : BitVec 32) (buttons : BitVec 4) :
    Statement (.sample lines buttons) := by
  intro sent _ h
  cases h

theorem frameStart :
    Statement (.frameStart) := by
  intro sent _ h
  cases h

theorem secondTick :
    Statement (.secondTick) := by
  intro sent _ h
  cases h

theorem windowBoundary :
    Statement (.windowBoundary) := by
  intro sent _ h
  cases h

theorem shelfExpiry :
    Statement (.shelfExpiry) := by
  intro sent _ h
  cases h

theorem chimeTimerExpiry :
    Statement (.chimeTimerExpiry) := by
  intro sent _ h
  cases h

theorem hostTestTimerExpiry :
    Statement (.hostTestTimerExpiry) := by
  intro sent _ h
  cases h

theorem flashPhaseAdvance :
    Statement (.flashPhaseAdvance) := by
  intro sent _ h
  cases h

theorem swap :
    Statement (.swap) := by
  intro sent _ h
  cases h

theorem brightnessIntoForce :
    Statement (.brightnessIntoForce) := by
  intro sent _ h
  cases h

theorem shortTransaction (bytes : List Sys2Proof.Byte) :
    Statement (.shortTransaction bytes) := by
  intro sent _ h
  cases h

theorem unknownCommand (code : Sys2Proof.Byte) :
    Statement (.unknownCommand code) := by
  intro sent hw h
  cases h
  refine ⟨code, [], rfl, ?_⟩
  simp only [Instr.wellFormed, Option.isNone_iff_eq_none] at hw
  simp [hw]

theorem definePoint (point source options debounce : Sys2Proof.Byte) :
    Statement (.definePoint point source options debounce) := by
  intro sent _ h
  cases h
  exact ⟨_, _, rfl, rfl⟩

theorem placeInService (point : Sys2Proof.Byte) :
    Statement (.placeInService point) := by
  intro sent _ h
  cases h
  exact ⟨_, _, rfl, rfl⟩

theorem removeFromService (point : Sys2Proof.Byte) :
    Statement (.removeFromService point) := by
  intro sent _ h
  cases h
  exact ⟨_, _, rfl, rfl⟩

theorem setClass (point cls : Sys2Proof.Byte) :
    Statement (.setClass point cls) := by
  intro sent _ h
  cases h
  exact ⟨_, _, rfl, rfl⟩

theorem readPoint (point : Sys2Proof.Byte) :
    Statement (.readPoint point) := by
  intro sent _ h
  cases h
  exact ⟨_, _, rfl, rfl⟩

theorem setCondition (point condition : Sys2Proof.Byte) :
    Statement (.setCondition point condition) := by
  intro sent _ h
  cases h
  exact ⟨_, _, rfl, rfl⟩

theorem readLines :
    Statement (.readLines) := by
  intro sent _ h
  cases h
  exact ⟨_, _, rfl, rfl⟩

theorem acknowledge (scope : Sys2Proof.Byte) :
    Statement (.acknowledge scope) := by
  intro sent _ h
  cases h
  exact ⟨_, _, rfl, rfl⟩

theorem silence :
    Statement (.silence) := by
  intro sent _ h
  cases h
  exact ⟨_, _, rfl, rfl⟩

theorem resetPoints (scope : Sys2Proof.Byte) :
    Statement (.resetPoints scope) := by
  intro sent _ h
  cases h
  exact ⟨_, _, rfl, rfl⟩

theorem setClassOptions (cls options : Sys2Proof.Byte) :
    Statement (.setClassOptions cls options) := by
  intro sent _ h
  cases h
  exact ⟨_, _, rfl, rfl⟩

theorem setGroupOptions (group options : Sys2Proof.Byte) :
    Statement (.setGroupOptions group options) := by
  intro sent _ h
  cases h
  exact ⟨_, _, rfl, rfl⟩

theorem readGroup (group : Sys2Proof.Byte) :
    Statement (.readGroup group) := by
  intro sent _ h
  cases h
  exact ⟨_, _, rfl, rfl⟩

theorem setChatterLimit (limit : Sys2Proof.Byte) :
    Statement (.setChatterLimit limit) := by
  intro sent _ h
  cases h
  exact ⟨_, _, rfl, rfl⟩

theorem listTop :
    Statement (.listTop) := by
  intro sent _ h
  cases h
  exact ⟨_, _, rfl, rfl⟩

theorem listSeek (point : Sys2Proof.Byte) :
    Statement (.listSeek point) := by
  intro sent _ h
  cases h
  exact ⟨_, _, rfl, rfl⟩

theorem readEntry :
    Statement (.readEntry) := by
  intro sent _ h
  cases h
  exact ⟨_, _, rfl, rfl⟩

theorem listMark :
    Statement (.listMark) := by
  intro sent _ h
  cases h
  exact ⟨_, _, rfl, rfl⟩

theorem listReturn :
    Statement (.listReturn) := by
  intro sent _ h
  cases h
  exact ⟨_, _, rfl, rfl⟩

theorem readListSummary :
    Statement (.readListSummary) := by
  intro sent _ h
  cases h
  exact ⟨_, _, rfl, rfl⟩

theorem shelve (point minutesHigh minutesLow : Sys2Proof.Byte) :
    Statement (.shelve point minutesHigh minutesLow) := by
  intro sent _ h
  cases h
  exact ⟨_, _, rfl, rfl⟩

theorem unshelve (point : Sys2Proof.Byte) :
    Statement (.unshelve point) := by
  intro sent _ h
  cases h
  exact ⟨_, _, rfl, rfl⟩

theorem readShelfSlot (slot : Sys2Proof.Byte) :
    Statement (.readShelfSlot slot) := by
  intro sent _ h
  cases h
  exact ⟨_, _, rfl, rfl⟩

theorem writeWindow (window entry : Sys2Proof.Byte) :
    Statement (.writeWindow window entry) := by
  intro sent _ h
  cases h
  exact ⟨_, _, rfl, rfl⟩

theorem readWindow (bank window : Sys2Proof.Byte) :
    Statement (.readWindow bank window) := by
  intro sent _ h
  cases h
  exact ⟨_, _, rfl, rfl⟩

theorem swapBanks :
    Statement (.swapBanks) := by
  intro sent _ h
  cases h
  exact ⟨_, _, rfl, rfl⟩

theorem copyLiveToStaging :
    Statement (.copyLiveToStaging) := by
  intro sent _ h
  cases h
  exact ⟨_, _, rfl, rfl⟩

theorem setBrightness (brightness : Sys2Proof.Byte) :
    Statement (.setBrightness brightness) := by
  intro sent _ h
  cases h
  exact ⟨_, _, rfl, rfl⟩

theorem setPanel (enable : Sys2Proof.Byte) :
    Statement (.setPanel enable) := by
  intro sent _ h
  cases h
  exact ⟨_, _, rfl, rfl⟩

theorem lampTest (value : Sys2Proof.Byte) :
    Statement (.lampTest value) := by
  intro sent _ h
  cases h
  exact ⟨_, _, rfl, rfl⟩

theorem readPanel :
    Statement (.readPanel) := by
  intro sent _ h
  cases h
  exact ⟨_, _, rfl, rfl⟩

theorem readCauses :
    Statement (.readCauses) := by
  intro sent _ h
  cases h
  exact ⟨_, _, rfl, rfl⟩

theorem clearCauses (mask : Sys2Proof.Byte) :
    Statement (.clearCauses mask) := by
  intro sent _ h
  cases h
  exact ⟨_, _, rfl, rfl⟩

theorem setCauseEnables (enables : Sys2Proof.Byte) :
    Statement (.setCauseEnables enables) := by
  intro sent _ h
  cases h
  exact ⟨_, _, rfl, rfl⟩

theorem setButtonLock (mask : Sys2Proof.Byte) :
    Statement (.setButtonLock mask) := by
  intro sent _ h
  cases h
  exact ⟨_, _, rfl, rfl⟩

theorem readButtons :
    Statement (.readButtons) := by
  intro sent _ h
  cases h
  exact ⟨_, _, rfl, rfl⟩

theorem readUptime :
    Statement (.readUptime) := by
  intro sent _ h
  cases h
  exact ⟨_, _, rfl, rfl⟩

theorem softReset :
    Statement (.softReset) := by
  intro sent _ h
  cases h
  exact ⟨_, _, rfl, rfl⟩

theorem transactionBegin :
    Statement (.transactionBegin) := by
  intro sent _ h
  cases h

theorem transactionEnd :
    Statement (.transactionEnd) := by
  intro sent _ h
  cases h

end Sys2Proof.Laws.CatalogueBytes
end

