-- ==== Sys2Proof/Tests/Slice0.lean ====
section
/-!
SUPPORT. Small tests with results taken from the manual, and for each statement with hypotheses a witness that meets them.
-/

namespace Sys2Proof.Tests

open Sys2Proof Sys2Proof.Machine

set_option Elab.async false

/-! ### Well-formed terms -/

theorem test_known_code_is_no_unknown_command : (Instr.unknownCommand 0x01#8).wellFormed = false := by decide
theorem test_unknown_code_is_well_formed : (Instr.unknownCommand 0x08#8).wellFormed = true := by decide
theorem test_complete_bytes_are_not_short : (Instr.shortTransaction [0x30#8, 9#8, 0#8, 1#8]).wellFormed = false := by
  decide
theorem test_unknown_code_is_not_short : (Instr.shortTransaction [0xFF#8]).wellFormed = false := by decide
theorem test_missing_bytes_are_short : (Instr.shortTransaction [0x30#8, 9#8, 0#8]).wellFormed = true := by decide

/-! ### A small panel -/

/-- A HOST point in service in group G0. -/
def hostPoint (t : SeqType) (c : ClassNo) : PointRec :=
  { PointRec.reset with seqType := t, cls := c, inService := true }

/-- P0 sounding in ALARM-NEW since 5, P1 in RINGBACK, both C1 in G0, which is HELD on P0; P2 on the shelf in S0; P3 on FI0
with debounce 3; P47 quiet; out of service, P4 on FI0 too, P46 on FI31 and P45. -/
def panel : State :=
  { State.reset with
    uptime := 9
    points := (((((((State.reset.points.set 0
        { hostPoint .latching 1 with
          line := .offNormal, eff := .offNormal, state := .alarmNew, sounding := true, entryTime := some 5,
          lastChange := some 5 }).set 1
        { hostPoint .latching 1 with state := .ringback, entryTime := some 3, lastChange := some 8 }).set 2
        { hostPoint .selfClearing 2 with shelf := some 0 }).set 3
        { hostPoint .latching 3 with source := .line 0, debounce := 3, group := 2 }).set 47
        { hostPoint .status 3 with group := 1 }).set 4 { PointRec.reset with source := .line 0 }).set 46
        { PointRec.reset with source := .line 31 })
    standing := [1, 0]
    lgen := 2#16
    cursor := some 1
    mark := .entry 0
    groups := State.reset.groups.set 0 ⟨true, .held 0⟩
    slots := State.reset.slots.set 0 (some ⟨2, 60⟩)
    horn := true
    causes := 0x21#8
    enables := 0x01#8
    attn := true }

/-- The panel inside a transaction whose command is not taken yet. -/
def panelReceiving : State :=
  { panel with link := { Link.reset with phase := .receiving, status := some 0x82#8 } }

/-- The state a command leaves. -/
def after (c : Instr) (s : State) : State :=
  match exec c s with
  | .next t => t
  | .fault _ => s
  | .refused _ => s

theorem panel_recordLaws : panel.RecordLaws :=
  ⟨by decide +kernel, by decide +kernel, by decide +kernel, by decide +kernel, by decide +kernel⟩

theorem panel_laws : panel.AnnunciationLaws :=
  ⟨panel_recordLaws, by decide +kernel, by decide +kernel, by decide +kernel, by decide +kernel, by decide +kernel,
    by decide +kernel, by decide +kernel, by decide +kernel⟩

theorem panel_hornLaw : panel.HornLaw := by decide +kernel

theorem panelReceiving_laws : panelReceiving.AnnunciationLaws := panel_laws

/-! ### The bytes of the link (E.1, the worked sequence of chapter 10) -/

/-- Step 1 of the worked sequence: SHELVE P9 for 0 minutes, and a byte for the result. -/
theorem test_shelve_bytes : transactionCommand [0x30#8, 0x09#8, 0x00#8, 0x00#8, 0x55#8] = .shelve 9#8 0#8 0#8 := by
  decide
/-- Step 2: DEFINE POINT P20 with CSn rising after the second parameter byte. -/
theorem test_define_cut_short : transactionCommand [0x01#8, 0x14#8, 0x09#8] =
    .shortTransaction [0x01#8, 0x14#8, 0x09#8] := by decide
/-- Step 4: LIST SEEK P4 is 21H, 04H. -/
theorem test_seek_bytes : (Instr.listSeek 4#8).mosiBytes = some [0x21#8, 0x04#8] := by decide
/-- R162: 22H is 00100010 on the line, and three further bits make no byte. -/
theorem test_bits_of_read_entry :
    completeBytes [false, false, true, false, false, false, true, false, true, true, true] = [0x22#8] := by decide
theorem test_unknown_code_ignores_the_rest : transactionCommand [0xAA#8, 0x01#8] = .unknownCommand 0xAA#8 := by decide
/-- R168: after a hard reset the status byte shows NOSVC alone. -/
theorem test_first_status_byte : State.reset.statusByte = 0x04#8 := by decide +kernel
/-- R167: a short low period sets LASTERR, and the next status byte shows it. -/
theorem test_short_sets_lasterr :
    (after .transactionBegin (after (.shortTransaction []) State.reset)).link.status = some 0x0C#8 := by decide +kernel
/-- R165: after the taken command the rest of the transaction is ignored. -/
theorem test_second_command_ignored :
    (after (.setCauseEnables 0xFF#8) (after .readUptime panelReceiving)).enables = 0x01#8 := by decide +kernel

/-! ### Points (worked sequence of chapter 1) -/

/-- P5: FI9, closed, debounce 25, LATCHING, C1, G2: the options byte is 0AH. -/
theorem test_define_point_fields :
    ((after (.definePoint 5#8 9#8 0x0A#8 25#8) State.reset).point 5).toPointConfig =
      ⟨.line 9, .whenClosed, 25, .latching, 1, 2⟩ := by decide +kernel
theorem test_sequence_type_3_refused :
    (after (.definePoint 5#8 9#8 0x60#8 25#8) State.reset).link.answer = some ⟨.badValue, []⟩ := by decide +kernel
/-- Step 3: FI9 is low, and the point arrives at its placing. -/
theorem test_place_arrives :
    ((after (.placeInService 5#8) { after (.definePoint 5#8 9#8 0x0A#8 25#8) State.reset with
      lines := 0xFFFFFDFF#32, uptime := 340 }).point 5).entryTime = some 340 := by decide +kernel
theorem test_place_line_taken :
    (after (.placeInService 4#8) panel).link.answer = some ⟨.lineTaken, []⟩ := by decide +kernel
theorem test_remove_rearms_no_other : (after (.removeFromService 0#8) panel).groupRec 0 = ⟨true, .spent⟩ := by
  decide +kernel
/-- Step 5: a rise to C0 takes the entry to the head of the list. -/
theorem test_set_class_moves : (after (.setClass 0#8 0#8) panel).standing = [0, 1] := by decide +kernel
/-- E.6: in service, line and effective condition off-normal, sounding, listed, first-out. -/
theorem test_read_point_flags :
    ((after (.readPoint 0#8) panel).link.answer.map fun a => a.data.getD 4 0) = some 0xF3#8 := by decide +kernel
theorem test_set_condition_returns :
    ((after (.setCondition 0#8 0#8) panel).point 0).state = .clearedNew := by decide +kernel

/-! ### Sequences -/

theorem test_acknowledge_counts :
    (after (.acknowledge 0x80#8) panel).link.answer = some ⟨.ok, [1#8]⟩ := by decide +kernel
theorem test_acknowledge_all_with_bits : (after (.acknowledge 0x81#8) panel).link.answer = some ⟨.badValue, []⟩ := by
  decide +kernel
theorem test_silence_quiets_the_horn : (after .silence panel).horn = false := by decide +kernel
theorem test_reset_takes_ringback : (after (.resetPoints 0x40#8) panel).standing = [0] := by decide +kernel
/-- R66: the off-normal P0 is announced anew, and its group is HELD on it. -/
theorem test_soft_reset_reannounces : (after .softReset panel).standing = [0] := by decide +kernel
theorem test_soft_reset_causes : (after .softReset panel).causes = 0x21#8 := by decide +kernel

/-! ### Groups, list and shelf -/

theorem test_option_on_not_quiet :
    (after (.setGroupOptions 0#8 1#8) { panel with groups := State.reset.groups }).groupRec 0 = ⟨true, .spent⟩ := by
  decide +kernel
/-- E.8: option on, HELD, P0, three in service, two listed, one shelved, ALARM-NEW. -/
theorem test_read_group_data :
    (after (.readGroup 0#8) panel).link.answer = some ⟨.ok, [1#8, 2#8, 0#8, 3#8, 2#8, 1#8, 1#8]⟩ := by decide +kernel
theorem test_class_options_silence_the_horn : (after (.setClassOptions 1#8 2#8) panel).horn = false := by
  decide +kernel
theorem test_list_top : (after .listTop { panel with cursor := none }).cursor = some 1 := by decide +kernel
theorem test_list_seek_unlisted : (after (.listSeek 2#8) panel).link.answer = some ⟨.notListed, []⟩ := by decide +kernel
/-- E.7: P1, RINGBACK, C1 in G0, repeat count 0, entry time 3, LGEN 2. -/
theorem test_read_entry_data : (after .readEntry panel).link.answer =
    some ⟨.ok, [1#8, 4#8, 0x01#8, 0#8, 0#8, 0#8, 0#8, 3#8, 0#8, 2#8]⟩ := by decide +kernel
theorem test_read_entry_steps : (after .readEntry panel).cursor = some 0 := by decide +kernel
theorem test_list_mark : (after .listMark panel).mark = .entry 1 := by decide +kernel
theorem test_list_return_lost :
    (after .listReturn { panel with mark := .lost }).link.answer = some ⟨.markLost, []⟩ := by decide +kernel
/-- E.8: two entries, LGEN 2, both in C1, one ALARM-NEW. -/
theorem test_summary_data : (after .readListSummary panel).link.answer =
    some ⟨.ok, [2#8, 0#8, 2#8, 0#8, 2#8, 0#8, 0#8, 1#8, 0#8]⟩ := by decide +kernel
theorem test_shelve_takes_the_lowest_slot : (after (.shelve 0#8 0x05#8 0xA0#8) panel).slot 1 = some ⟨0, 86400⟩ := by
  decide +kernel
theorem test_shelve_marks_lost : (after (.shelve 0#8 0#8 1#8) panel).mark = .lost := by decide +kernel
theorem test_unshelve_sets_no_cause : (after (.unshelve 2#8) panel).causes = 0x21#8 := by decide +kernel
/-- E.8: 86400 seconds read 015180H. -/
theorem test_read_slot_data :
    (after (.readShelfSlot 0#8) { panel with slots := panel.slots.set 0 (some ⟨2, 86400⟩) }).link.answer =
      some ⟨.ok, [0x01#8, 2#8, 0x01#8, 0x51#8, 0x80#8]⟩ := by decide +kernel

/-! ### Input unit and operator unit -/

/-- The example of chapter 2: the sample after two contrary ones at debounce 3 is accepted. -/
theorem test_third_contrary_sample :
    ((after (.sample 0xFFFFFFFE#32 0xF#4) { panel with points := panel.points.set 3 { panel.point 3 with run := 2 } }).point
      3).state = .alarmNew := by decide +kernel
theorem test_contrary_sample_counts :
    ((after (.sample 0xFFFFFFFE#32 0xF#4) panel).point 3).run = 1 := by decide +kernel
/-- R35: FI0 low alone. -/
theorem test_read_lines_data : (after .readLines { panel with lines := 0xFFFFFFFE#32 }).link.answer =
    some ⟨.ok, [0xFE#8, 0xFF#8, 0xFF#8, 0xFF#8]⟩ := by decide +kernel
theorem test_chatter_limit_1_refused :
    (after (.setChatterLimit 1#8) panel).link.answer = some ⟨.badValue, []⟩ := by decide +kernel
theorem test_lock_ends_the_test :
    (after (.setButtonLock 0x08#8) { panel with buttonTest := true }).causes = 0xA1#8 := by decide +kernel
theorem test_read_buttons_data :
    (after .readButtons { panel with buttons := panel.buttons.set 1 ⟨true, 0, 4#8⟩, lockMask := 0x5#4 }).link.answer =
      some ⟨.ok, [0x02#8, 0x05#8, 0#8, 4#8, 0#8, 0#8]⟩ := by decide +kernel

/-! ### Panel -/

theorem test_write_window_busy :
    (after (.writeWindow 10#8 0x82#8) { panel with swapPending := true }).link.answer = some ⟨.busy, []⟩ := by
  decide +kernel
theorem test_write_window_stages :
    ((after (.writeWindow 47#8 0x82#8) panel).bankB)[47] = .group 2 := by decide +kernel
theorem test_read_window_data :
    (after (.readWindow 1#8 20#8) { panel with bankB := panel.bankB.set 20 (.point 31) }).link.answer =
      some ⟨.ok, [0x5F#8]⟩ := by decide +kernel
theorem test_swap_at_frame_start : (after .frameStart { panel with swapPending := true }).live = .b := by decide +kernel
theorem test_swap_sets_its_cause : (after .swap { panel with swapPending := true }).causes = 0x61#8 := by decide +kernel
theorem test_copy_fills_staging :
    ((after .copyLiveToStaging { panel with bankA := panel.bankA.set 5 (.point 7) }).bankB)[5] = .point 7 := by
  decide +kernel
theorem test_second_swap_busy :
    (after .swapBanks { panel with swapPending := true }).link.answer = some ⟨.busy, []⟩ := by decide +kernel
theorem test_brightness_17_refused : (after (.setBrightness 17#8) panel).reqBrightness = 16 := by decide +kernel
theorem test_brightness_in_force : (after .brightnessIntoForce { panel with reqBrightness := 10 }).brightness = 10 := by
  decide +kernel
theorem test_panel_disabled : (after (.setPanel 0#8) panel).panelEnabled = false := by decide +kernel
theorem test_lamp_test_chimes : (after (.lampTest 1#8) panel).chimeTimer = 500 := by decide +kernel
/-- E.8: enabled, brightness 16 and 16, 5000 ticks (1388H), phase 7. -/
theorem test_read_panel_data : (after .readPanel { panel with hostTimer := 5000, phase := 7 }).link.answer =
    some ⟨.ok, [0x14#8, 16#8, 16#8, 0x13#8, 0x88#8, 7#8]⟩ := by decide +kernel
/-- The MAIN element of W20 lit at brightness 10, in the row slot of RD3. -/
def panelShowing : State :=
  { panel with
    tickCount := 3
    frame := some ⟨(Vector.replicate 48 ⟨false, false⟩).set 20 ⟨true, false⟩, true, 10⟩ }

/-- R130: W20 lies on RD3, CD4 and CD5; R139: brightness 10 drives it for 640 periods of the slot. -/
theorem test_window_20_drive :
    (panelShowing.columnDrive 4 639 = true ∧ panelShowing.columnDrive 4 640 = false) ∧ panelShowing.rowDrive 3 = true := by
  decide +kernel
theorem test_phase_advance_wraps :
    (after .flashPhaseAdvance { after .frameStart panel with phase := 7, frameCount := 15 }).phase = 0 := by
  decide +kernel

/-! ### Timebase and attention -/

/-- The table of cadences around one second tick. -/
theorem test_cadences_around_a_second :
    [992, 993, 994, 999, 0, 1].map cadencesOf =
      [⟨true, true, false, 0⟩, ⟨false, false, false, 1⟩, ⟨true, false, false, 2⟩, ⟨false, false, false, 7⟩,
       ⟨true, true, true, 0⟩, ⟨false, false, false, 1⟩] := by decide +kernel

theorem test_tick_wraps : (after .tick { panel with tickCount := 999 }).tickCount = 0 := by decide +kernel
theorem test_tick_ends_the_host_test : (after .tick { panel with hostTimer := 1 }).causes = 0xA1#8 := by decide +kernel
theorem test_chime_expires : (after .chimeTimerExpiry { panel with chimeTimer := 1 }).chimeTimer = 0 := by decide +kernel
theorem test_host_test_expires : (after .hostTestTimerExpiry { panel with hostTimer := 1 }).hostTimer = 0 := by
  decide +kernel
theorem test_second_tick_counts_down : (after .secondTick panel).slot 0 = some ⟨2, 59⟩ := by decide +kernel
theorem test_uptime_holds : (after .secondTick { panel with uptime := 0xFFFFFFFE }).uptime = 0xFFFFFFFE := by
  decide +kernel
theorem test_expiry_sets_shelf :
    (after .shelfExpiry { panel with slots := panel.slots.set 0 (some ⟨2, 1⟩) }).causes = 0x25#8 := by decide +kernel
/-- P3 in lockout with no change in this window, its line off-normal. -/
def panelLockedOut : State :=
  { panel with
    points := panel.points.set 3
      { panel.point 3 with lockout := true, line := .offNormal, eff := .offNormal, state := .alarmAcked } }

/-- R29: a lockout that saw no change ends at the boundary that makes the uptime 10. -/
theorem test_boundary_ends_the_lockout :
    ((after .windowBoundary panelLockedOut).point 3).lockout = false := by decide +kernel
theorem test_read_uptime_data : (after .readUptime { panel with uptime := 0x01020304 }).link.answer =
    some ⟨.ok, [1#8, 2#8, 3#8, 4#8]⟩ := by decide +kernel
theorem test_read_causes_clears_nothing : (after .readCauses panel).causes = 0x21#8 := by decide +kernel
theorem test_clear_causes_releases_attn : (after (.clearCauses 0x01#8) panel).attn = false := by decide +kernel
theorem test_enable_asserts_attn :
    (after (.setCauseEnables 0x20#8) { panel with enables := 0#8, attn := false }).attn = true := by decide +kernel
/-- R169: a CSn still low at the end of the reset begins no transaction. -/
theorem test_hard_reset_with_csn_low : (after .transactionEnd (after (.hardReset true) panel)).link.lastErr = false := by
  decide +kernel

/-! ### Witnesses: for each statement with hypotheses, states and operands that meet them, clause by clause -/

/-- A command that completes leaves the state `after` names. -/
theorem exec_after {c : Instr} {s : State}
    (h : (match exec c s with | .next _ => true | .fault _ => false | .refused _ => false) = true) :
    exec c s = .next (after c s) := by
  unfold after
  split at h <;> simp_all

/-- The panel with a command waiting. -/
def panelWith (c : Instr) : State := { panel with pending := [c] }

theorem witness_StepKeepsTheAnnunciationLaws :
    (panelWith .secondTick).AnnunciationLaws ∧ ∃ t, step (panelWith .secondTick) = .next t :=
  ⟨panel_laws, _, rfl⟩

theorem witness_StepKeepsTheHornLaw : (panelWith .silence).AnnunciationLaws ∧ (panelWith .silence).HornLaw ∧
    ∃ t, step (panelWith .silence) = .next t :=
  ⟨panel_laws, panel_hornLaw, _, rfl⟩

theorem panelReceiving_linkLaw : panelReceiving.LinkLaw := by decide +kernel

theorem witness_StepKeepsTheUnitLaws :
    (panelWith .tick).AttnLaw ∧ (panelWith .tick).ButtonLaw ∧ (panelWith .tick).DeviceRangeLaw ∧
      (panelWith .tick).LinkLaw ∧ ∃ t, step (panelWith .tick) = .next t :=
  ⟨by decide +kernel, by decide +kernel, by decide +kernel, by decide +kernel, _, rfl⟩

theorem witness_TransactionBytesReadBack :
    ((Instr.definePoint 47#8 31#8 0xFF#8 250#8).wellFormed = true ∧
      (Instr.definePoint 47#8 31#8 0xFF#8 250#8).mosiBytes = some [0x01#8, 47#8, 31#8, 0xFF#8, 250#8]) ∧
    ((Instr.unknownCommand 0xFF#8).wellFormed = true ∧ (Instr.unknownCommand 0xFF#8).mosiBytes = some [0xFF#8]) ∧
    (Instr.shortTransaction []).wellFormed = true ∧
    (Instr.shortTransaction [0x01#8, 47#8, 31#8, 0xFF#8]).wellFormed = true := by decide

/-- The panel with its cursor at END, and with a LOST mark. -/
def panelAtEnd : State := { panel with cursor := none }
def panelLostMark : State := { panel with mark := .lost }

theorem witness_ResultsGovernEffectsAndData :
    ((Instr.placeInService 47#8).isHostCommand ∧ panel.Ready ∧
      exec (.placeInService 47#8) panel = .next (after (.placeInService 47#8) panel) ∧
      (after (.placeInService 47#8) panel).link.answer = some ⟨.inService, []⟩) ∧
    (Instr.readUptime.isHostCommand ∧ panelReceiving.Ready ∧
      exec .readUptime panelReceiving = .next (after .readUptime panelReceiving) ∧
      (after .readUptime panelReceiving).link.answer = some ⟨.ok, [0#8, 0#8, 0#8, 9#8]⟩) ∧
    (Instr.readEntry.isHostCommand ∧ panelAtEnd.Ready ∧
      exec .readEntry panelAtEnd = .next (after .readEntry panelAtEnd) ∧
      (after .readEntry panelAtEnd).link.answer = some ⟨.listEnd, []⟩) ∧
    (Instr.listReturn.isHostCommand ∧ panelLostMark.Ready ∧
      exec .listReturn panelLostMark = .next (after .listReturn panelLostMark) ∧
      (after .listReturn panelLostMark).link.answer = some ⟨.markLost, []⟩) :=
  ⟨⟨by decide, by decide +kernel, exec_after (by decide +kernel), by decide +kernel⟩,
   ⟨by decide, by decide +kernel, exec_after (by decide +kernel), by decide +kernel⟩,
   ⟨by decide, by decide +kernel, exec_after (by decide +kernel), by decide +kernel⟩,
   ⟨by decide, by decide +kernel, exec_after (by decide +kernel), by decide +kernel⟩⟩

theorem witness_ConfigurationIsConstantInService :
    exec (.setCondition 47#8 1#8) panel = .next (after (.setCondition 47#8 1#8) panel) ∧
    (panel.point 47).inService = true ∧ ((after (.setCondition 47#8 1#8) panel).point 47).inService = true ∧
    (∀ b₁ b₂, Instr.setCondition 47#8 1#8 ≠ .setClass b₁ b₂) :=
  ⟨exec_after (by decide +kernel), by decide +kernel, by decide +kernel, nofun⟩

/-- The panel with a swap pending. -/
def panelSwapping : State := { panel with swapPending := true }

theorem witness_StagingBankStandsWhileSwapPending :
    (exec (.writeWindow 47#8 0x82#8) panelSwapping = .next (after (.writeWindow 47#8 0x82#8) panelSwapping) ∧
      (∀ csLow, Instr.writeWindow 47#8 0x82#8 ≠ .hardReset csLow)) ∧
    (exec .frameStart panelSwapping = .next (after .frameStart panelSwapping) ∧
      (∀ csLow, Instr.frameStart ≠ .hardReset csLow)) ∧
    panelSwapping.swapPending = true :=
  ⟨⟨exec_after (by decide +kernel), nofun⟩, ⟨exec_after (by decide +kernel), nofun⟩, by decide +kernel⟩

theorem witness_ShelvedPointKeepsItsSequence :
    panel.AnnunciationLaws ∧ exec (.setCondition 2#8 1#8) panel = .next (after (.setCondition 2#8 1#8) panel) ∧
    (panel.point 2).shelf ≠ none ∧ ((after (.setCondition 2#8 1#8) panel).point 2).shelf = (panel.point 2).shelf :=
  ⟨panel_laws, exec_after (by decide +kernel), by decide +kernel, by decide +kernel⟩

/-- P3 alone on the list, SELF-CLEARING and ALARM-ACKED on FI0, with G0 HELD on it; P46 quiet in G0 on FI31. Both accept a
change at the first contrary sample. -/
def panelOneListed : State :=
  { State.reset with
    uptime := 9
    points := (State.reset.points.set 3
        { hostPoint .selfClearing 1 with
          source := .line 0, debounce := 1, line := .offNormal, eff := .offNormal, state := .alarmAcked,
          entryTime := some 5, lastChange := some 5 }).set 46
        { hostPoint .latching 1 with source := .line 31, debounce := 1 }
    standing := [3]
    groups := State.reset.groups.set 0 ⟨true, .held 3⟩ }

theorem panelOneListed_laws : panelOneListed.AnnunciationLaws :=
  ⟨⟨by decide +kernel, by decide +kernel, by decide +kernel, by decide +kernel, by decide +kernel⟩, by decide +kernel,
    by decide +kernel, by decide +kernel, by decide +kernel, by decide +kernel, by decide +kernel, by decide +kernel,
    by decide +kernel⟩

/-- R70, R73: the sample that returns FI0 and trips FI31 re-arms the group and then holds it on P46. -/
theorem test_sample_rearms_and_holds :
    ((after (.sample 0x7FFFFFFF#32 0xF#4) panelOneListed).groupRec 0).firstOut = .held 46 := by decide +kernel
/-- R70: a new alert leaves a HELD group as it is. -/
theorem test_new_alert_keeps_held :
    ((after (.sample 0x7FFFFFFE#32 0xF#4) panelOneListed).groupRec 0).firstOut = .held 3 := by decide +kernel

/-- A HELD group left in each of the four ways: SPENT by a shelving with P1 listed, OFF by the option; ARMED by the removal of
the one listed point, and HELD anew by a sample. -/
theorem witness_FirstOutIsLostOnlyAsTheTableSays :
    (panel.AnnunciationLaws ∧ (panel.groupRec 0).firstOut = .held 0) ∧
    (exec (.shelve 0#8 0#8 1#8) panel = .next (after (.shelve 0#8 0#8 1#8) panel) ∧
      (∀ csLow, Instr.shelve 0#8 0#8 1#8 ≠ .hardReset csLow) ∧ Instr.shelve 0#8 0#8 1#8 ≠ .softReset ∧
      ((after (.shelve 0#8 0#8 1#8) panel).groupRec 0).firstOut = .spent) ∧
    (exec (.setGroupOptions 0#8 0#8) panel = .next (after (.setGroupOptions 0#8 0#8) panel) ∧
      (∀ csLow, Instr.setGroupOptions 0#8 0#8 ≠ .hardReset csLow) ∧ Instr.setGroupOptions 0#8 0#8 ≠ .softReset ∧
      ((after (.setGroupOptions 0#8 0#8) panel).groupRec 0).firstOut = .off) ∧
    (panelOneListed.AnnunciationLaws ∧ (panelOneListed.groupRec 0).firstOut = .held 3) ∧
    (exec (.removeFromService 3#8) panelOneListed = .next (after (.removeFromService 3#8) panelOneListed) ∧
      (∀ csLow, Instr.removeFromService 3#8 ≠ .hardReset csLow) ∧ Instr.removeFromService 3#8 ≠ .softReset ∧
      ((after (.removeFromService 3#8) panelOneListed).groupRec 0).firstOut = .armed) ∧
    (exec (.sample 0x7FFFFFFF#32 0xF#4) panelOneListed =
        .next (after (.sample 0x7FFFFFFF#32 0xF#4) panelOneListed) ∧
      (∀ csLow, Instr.sample 0x7FFFFFFF#32 0xF#4 ≠ .hardReset csLow) ∧
      Instr.sample 0x7FFFFFFF#32 0xF#4 ≠ .softReset ∧
      ((after (.sample 0x7FFFFFFF#32 0xF#4) panelOneListed).groupRec 0).firstOut = .held 46) :=
  ⟨⟨panel_laws, by decide +kernel⟩,
   ⟨exec_after (by decide +kernel), nofun, by decide, by decide +kernel⟩,
   ⟨exec_after (by decide +kernel), nofun, by decide, by decide +kernel⟩,
   ⟨panelOneListed_laws, by decide +kernel⟩,
   ⟨exec_after (by decide +kernel), nofun, by decide, by decide +kernel⟩,
   exec_after (by decide +kernel), nofun, by decide, by decide +kernel⟩

/-- The panel once SHELVE is taken in a transaction, once READ POINT is, and in a low period left from a hard reset. -/
def panelTaken : State := after (.shelve 47#8 0#8 1#8) panelReceiving
def panelAnswering : State := after (.readPoint 47#8) panelReceiving
def panelIgnoring : State := { panel with link := { Link.reset with phase := .ignored } }

theorem witness_TransactionsBeginAndEnd :
    panel.link.phase = .idle ∧ panelReceiving.link.phase = .receiving ∧ panelTaken.link.phase = .taken ∧
      panelIgnoring.link.phase = .ignored ∧ (Instr.unknownCommand 0xFF#8).isHostCommand := by decide +kernel

theorem witness_LastErrFollowsEachTransaction :
    (Instr.readUptime.isHostCommand ∧ panel.Ready ∧ exec .readUptime panel = .next (after .readUptime panel)) ∧
    (panelReceiving.Ready ∧
      exec (.shortTransaction [0x01#8]) panelReceiving = .next (after (.shortTransaction [0x01#8]) panelReceiving)) ∧
    (panelReceiving.link.phase = .receiving ∧
      exec .transactionEnd panelReceiving = .next (after .transactionEnd panelReceiving)) ∧
    exec (.hardReset true) panel = .next (after (.hardReset true) panel) ∧
    exec .softReset panel = .next (after .softReset panel) ∧
    ((¬ Instr.tick.isHostCommand) ∧ (∀ bytes, Instr.tick ≠ .shortTransaction bytes) ∧
      Instr.tick ≠ .transactionEnd ∧ Instr.tick ≠ .transactionBegin ∧ (∀ csLow, Instr.tick ≠ .hardReset csLow) ∧
      exec .tick panel = .next (after .tick panel)) ∧
    (panel.link.phase ≠ .receiving ∧ exec .transactionEnd panel = .next (after .transactionEnd panel)) ∧
    exec .transactionBegin panel = .next (after .transactionBegin panel) ∧
    exec .transactionBegin panelReceiving = .next (after .transactionBegin panelReceiving) ∧
    ((¬ panelTaken.Ready) ∧ exec .silence panelTaken = .next (after .silence panelTaken) ∧
      exec (.shortTransaction []) panelTaken = .next (after (.shortTransaction []) panelTaken)) ∧
    ((¬ panelIgnoring.Ready) ∧ exec .silence panelIgnoring = .next (after .silence panelIgnoring) ∧
      exec (.shortTransaction []) panelIgnoring = .next (after (.shortTransaction []) panelIgnoring)) :=
  ⟨⟨by decide, by decide +kernel, exec_after (by decide +kernel)⟩, ⟨by decide +kernel, exec_after (by decide +kernel)⟩,
   ⟨by decide +kernel, exec_after (by decide +kernel)⟩, exec_after (by decide +kernel), exec_after (by decide +kernel),
   ⟨by decide, nofun, by decide, by decide, nofun, exec_after (by decide +kernel)⟩,
   ⟨by decide +kernel, exec_after (by decide +kernel)⟩, exec_after (by decide +kernel), exec_after (by decide +kernel),
   ⟨by decide +kernel, exec_after (by decide +kernel), exec_after (by decide +kernel)⟩,
   by decide +kernel, exec_after (by decide +kernel), exec_after (by decide +kernel)⟩

theorem witness_CommandAloneIsItsWholeTransaction :
    (Instr.definePoint 0#8 0#8 0#8 1#8).isHostCommand ∧ Instr.readUptime.isHostCommand ∧ panel.link.phase = .idle := by
  decide +kernel

/-- Each phase; SHELVE has three parameter bytes and no data, READ POINT one parameter byte and sixteen of data. -/
theorem witness_MisoCarriesStatusResultAndData :
    (panel.LinkLaw ∧ panel.link.phase = .idle) ∧ (panelIgnoring.LinkLaw ∧ panelIgnoring.link.phase = .ignored) ∧
    (panelReceiving.LinkLaw ∧ panelReceiving.link.phase = .receiving) ∧
    (panelTaken.LinkLaw ∧ panelTaken.link.phase = .taken ∧ panelTaken.link.answer = some ⟨.ok, []⟩ ∧
      panelTaken.link.params.length = 3) ∧
    (panelAnswering.LinkLaw ∧ panelAnswering.link.phase = .taken ∧ panelAnswering.link.params.length = 1 ∧
      ∃ a, panelAnswering.link.answer = some a ∧ 15 < a.data.length) := by
  refine ⟨by decide +kernel, by decide +kernel, by decide +kernel, by decide +kernel, by decide +kernel,
    by decide +kernel, by decide +kernel, ?_⟩
  exact Option.any_eq_true (p := fun a : Answer => decide (15 < a.data.length)) .. |>.mp (by decide +kernel) |>.imp
    fun _ h => ⟨h.1, by simpa using h.2⟩

theorem witness_BytesTravelMostSignificantBitFirst :
    [true, false, true, true, true, true, true].length < 8 ∧ panelReceiving.misoByte 0 = some 0x82#8 ∧
      panel.misoByte 0 = none := by decide +kernel

theorem witness_StatusByteReportsTheDevice : panel.link.phase = .idle ∧ panel.AttnLaw ∧
    exec .transactionBegin panel = .next (after .transactionBegin panel) :=
  ⟨by decide +kernel, by decide +kernel, exec_after (by decide +kernel)⟩

theorem witness_UnknownCodesAreAnswered :
    panel.Ready ∧ panelReceiving.Ready ∧ paramCount 0x00#8 = none ∧ paramCount 0x08#8 = none ∧
      paramCount 0xFF#8 = none := by decide +kernel

/-- 48 names no point and P47 is in service; P46 is not, and its bytes are bad or good at the ends of their ranges. -/
theorem witness_DefinePointChecksAndEffect :
    panel.Ready ∧ panelReceiving.Ready ∧ 48 ≤ (48#8 : Byte).toNat ∧ (panel.point 47).inService = true ∧
    (panel.point 46).inService = false ∧ (46#8 : Byte).toNat = (46 : PointNo).val ∧
    (32 ≤ (0x20#8 : Byte).toNat ∧ (0x20#8 : Byte).toNat ≠ 0x80) ∧ (0x60#8 : Byte).toNat / 32 % 4 = 3 ∧
    (0#8 : Byte).toNat = 0 ∧ 250 < (251#8 : Byte).toNat ∧
    ((31#8 : Byte).toNat = (Source.line 31).byteValue ∧
      (0xDF#8 : Byte).toNat = (PointConfig.mk (.line 31) .whenOpen 250 .status 3 7).optionsValue ∧
      (250#8 : Byte).toNat = 250) ∧
    ((0x80#8 : Byte).toNat = Source.host.byteValue ∧
      (0x00#8 : Byte).toNat = (PointConfig.mk .host .whenClosed 1 .latching 0 0).optionsValue) := by decide +kernel

/-- P47 is in service; P4 shares FI0 with P3, which is in service; P45 is a HOST point, and P46 is alone on FI31. -/
theorem witness_PlaceInServiceChecksAndEffect :
    panel.Ready ∧ panel.AnnunciationLaws ∧ 48 ≤ (48#8 : Byte).toNat ∧ (panel.point 47).inService = true ∧
    ((panel.point 4).inService = false ∧ (panel.point 4).source = .line 0 ∧ (panel.point 3).inService = true ∧
      (panel.point 3).source = .line 0) ∧
    ((panel.point 45).inService = false ∧ (panel.point 45).source = .host) ∧
    ((panel.point 46).inService = false ∧ (panel.point 46).source = .line 31 ∧
      ∀ q : PointNo, q ≠ 46 → (panel.point q).inService = true → (panel.point q).source ≠ .line 31) :=
  ⟨by decide +kernel, panel_laws, by decide, by decide +kernel, by decide +kernel, by decide +kernel, by decide +kernel,
   by decide +kernel, by decide +kernel⟩

theorem witness_RemoveFromServiceChecksAndEffect :
    panel.Ready ∧ panel.AnnunciationLaws ∧ 48 ≤ (48#8 : Byte).toNat ∧ (panel.point 46).inService = false ∧
    (panel.point 47).inService = true ∧ (47#8 : Byte).toNat = (47 : PointNo).val :=
  ⟨by decide +kernel, panel_laws, by decide, by decide +kernel, by decide +kernel, by decide⟩

/-- P47 is not listed; P0 is listed in C1. -/
theorem witness_SetClassMovesTheEntry :
    panel.Ready ∧ panel.AnnunciationLaws ∧ 48 ≤ (48#8 : Byte).toNat ∧ 4 ≤ (4#8 : Byte).toNat ∧
    (47 : PointNo) ∉ panel.standing ∧ (0 : PointNo) ∈ panel.standing ∧ (panel.point 0).cls = 1 ∧
    (panel.point 0).cls ≠ 0 ∧ (panel.point 0).cls ≠ 3 :=
  ⟨by decide +kernel, panel_laws, by decide, by decide, by decide +kernel, by decide +kernel, by decide +kernel,
   by decide +kernel, by decide +kernel⟩

theorem witness_ReadPointReturnsTheRecord : panel.Ready ∧ panel.AnnunciationLaws ∧ 48 ≤ (48#8 : Byte).toNat ∧
    (47#8 : Byte).toNat = (47 : PointNo).val :=
  ⟨by decide +kernel, panel_laws, by decide, by decide⟩

/-- P46 is out of service; P3 is a line point; P47 is a HOST point with its line normal. -/
theorem witness_SetConditionChecksAndEffect :
    panel.Ready ∧ panel.AnnunciationLaws ∧ 48 ≤ (48#8 : Byte).toNat ∧ (panel.point 46).inService = false ∧
    ((panel.point 3).inService = true ∧ (panel.point 3).source ≠ .host) ∧
    ((panel.point 47).inService = true ∧ (panel.point 47).source = .host ∧ 2 ≤ (2#8 : Byte).toNat) ∧
    (panel.point 47).line = .normal ∧ (panel.point 47).line ≠ .offNormal ∧
    ((panel.point 0).inService = true ∧ (panel.point 0).source = .host ∧ (panel.point 0).line ≠ .normal) :=
  ⟨by decide +kernel, panel_laws, by decide, by decide +kernel, by decide +kernel, by decide +kernel, by decide +kernel,
   by decide +kernel, by decide +kernel⟩

theorem witness_AcknowledgeAndResetActOnTheirScope :
    panel.Ready ∧ panel.AnnunciationLaws ∧ (0xC0#8 : Byte).toNat / 64 = 3 ∧
    ((0x81#8 : Byte).toNat / 64 = 2 ∧ (0x81#8 : Byte).toNat ≠ 128) ∧
    (48 ≤ (48#8 : Byte).toNat ∧ (63#8 : Byte).toNat < 64) ∧ (72 ≤ (72#8 : Byte).toNat ∧ (127#8 : Byte).toNat < 128) ∧
    (47#8 : Byte).toNat = (Scope.point 47).byteValue ∧ (71#8 : Byte).toNat = (Scope.group 7).byteValue ∧
    (128#8 : Byte).toNat = Scope.all.byteValue :=
  ⟨by decide +kernel, panel_laws, by decide, by decide, by decide, by decide, by decide, by decide, by decide⟩

theorem witness_AcknowledgeAllLeavesNothingNew :
    panel.Ready ∧ panel.AnnunciationLaws ∧ panel.HornLaw ∧
    exec (.acknowledge 0x80#8) panel = .next (after (.acknowledge 0x80#8) panel) :=
  ⟨by decide +kernel, panel_laws, panel_hornLaw, exec_after (by decide +kernel)⟩

theorem witness_SilenceClearsTheFlags : panel.Ready ∧ panelReceiving.Ready := by decide +kernel

theorem witness_SoftResetClearsThenReannounces : panel.Ready ∧ panelReceiving.Ready := by decide +kernel

/-- P0 is announced anew; G0 has its option on. -/
theorem witness_SoftResetRebuildsTheAnnunciation : panel.Ready ∧
    exec .softReset panel = .next (after .softReset panel) ∧ 0 ∈ panel.toAnnounce ∧ 47 ∉ panel.toAnnounce ∧
    (panel.groupRec 0).option = true :=
  ⟨by decide +kernel, exec_after (by decide +kernel), by decide +kernel, by decide +kernel, by decide +kernel⟩

/-- G7 is OFF and G0 is HELD. -/
theorem witness_SetGroupOptionsMovesFirstOut :
    panel.Ready ∧ 8 ≤ (8#8 : Byte).toNat ∧ 2 ≤ (2#8 : Byte).toNat ∧ (7#8 : Byte).toNat = (7 : GroupNo).val ∧
    (0#8 : Byte).toNat = 0 ∧ (1#8 : Byte).toNat = 1 ∧ (panel.groupRec 7).firstOut = .off ∧
    (panel.groupRec 0).firstOut ≠ .off := by decide +kernel

theorem witness_ReadGroupReturnsTheRecord :
    panel.Ready ∧ 8 ≤ (8#8 : Byte).toNat ∧ (7#8 : Byte).toNat = (7 : GroupNo).val := by decide +kernel

theorem witness_SetClassOptionsGovernsTheHorn :
    panel.Ready ∧ 4 ≤ (4#8 : Byte).toNat ∧ (3#8 : Byte).toNat = (3 : ClassNo).val ∧ (3#8 : Byte).toNat < 4 := by
  decide +kernel

theorem witness_ListTopAndSeekPlaceTheCursor :
    panel.Ready ∧ 48 ≤ (48#8 : Byte).toNat ∧ (47#8 : Byte).toNat = (47 : PointNo).val ∧ 47 ∉ panel.standing ∧
    (0#8 : Byte).toNat = (0 : PointNo).val ∧ 0 ∈ panel.standing := by decide +kernel

theorem witness_ReadEntryReturnsAndSteps :
    (panelAtEnd.Ready ∧ panelAtEnd.cursor = none) ∧
    (panel.Ready ∧ panel.cursor = some 1 ∧ panel.AnnunciationLaws) :=
  ⟨by decide +kernel, by decide +kernel, by decide +kernel, panel_laws⟩

theorem witness_ListMarkAndReturn :
    (panel.Ready ∧ panel.cursor = some 1 ∧ panel.mark = .entry 0) ∧ (panelAtEnd.Ready ∧ panelAtEnd.cursor = none) ∧
    ((after .listMark panelAtEnd).Ready ∧ (after .listMark panelAtEnd).mark = .atEnd) ∧
    (panelLostMark.Ready ∧ panelLostMark.mark = .lost) ∧ (State.reset.Ready ∧ State.reset.mark = .none) := by
  decide +kernel

theorem witness_ReadListSummaryCountsTheList : panelReceiving.Ready ∧ panelReceiving.AnnunciationLaws :=
  ⟨by decide +kernel, panel_laws⟩

/-- The panel with every slot used. -/
def panelShelfFull : State := { panel with slots := Vector.replicate 8 (some ⟨2, 60⟩) }

/-- 1 and 1440 minutes are good, 0 and 1441 bad; P46 is out of service, P2 shelved; S1 is the lowest free slot. -/
theorem witness_ShelveChecksAndEffect :
    panel.Ready ∧ panel.AnnunciationLaws ∧ 48 ≤ (48#8 : Byte).toNat ∧ (panel.point 46).inService = false ∧
    ((panel.point 2).inService = true ∧ (panel.point 2).shelf ≠ none) ∧
    ((panel.point 47).inService = true ∧ (panel.point 47).shelf = none) ∧
    (0#8 : Byte).toNat * 256 + (0#8 : Byte).toNat = 0 ∧ 1440 < (0x05#8 : Byte).toNat * 256 + (0xA1#8 : Byte).toNat ∧
    (0#8 : Byte).toNat * 256 + (1#8 : Byte).toNat = 1 ∧ (0x05#8 : Byte).toNat * 256 + (0xA0#8 : Byte).toNat = 1440 ∧
    (panelShelfFull.Ready ∧ (panelShelfFull.point 47).inService = true ∧ (panelShelfFull.point 47).shelf = none ∧
      ∀ k, panelShelfFull.slot k ≠ none) ∧
    panel.slot 1 = none ∧ (∀ j, j < 1 → panel.slot j ≠ none) :=
  ⟨by decide +kernel, panel_laws, by decide, by decide +kernel, by decide +kernel, by decide +kernel, by decide,
   by decide, by decide, by decide, by decide +kernel, by decide +kernel, by decide +kernel⟩

theorem witness_UnshelveAndReadShelfSlot :
    panel.Ready ∧ panel.AnnunciationLaws ∧ 48 ≤ (48#8 : Byte).toNat ∧ (panel.point 47).shelf = none ∧
    (panel.point 2).shelf = some 0 ∧ 8 ≤ (8#8 : Byte).toNat ∧ panel.slot 7 = none ∧ panel.ShelfLaw ∧
    panel.slot 0 = some ⟨2, 60⟩ :=
  ⟨by decide +kernel, panel_laws, by decide, by decide +kernel, by decide +kernel, by decide, by decide +kernel,
   by decide +kernel, by decide +kernel⟩

/-- The panel with bank B live. -/
def panelOnB : State := { panel with live := .b }

/-- The bytes just outside the entries are no entry. -/
theorem no_window_entry (b : Byte) (h : b = 0x01#8 ∨ b = 0x3F#8 ∨ b = 0x70#8 ∨ b = 0x7F#8 ∨ b = 0x88#8 ∨ b = 0xFF#8) :
    ∀ e : WindowEntry, b.toNat ≠ e.byteValue := by
  intro e
  obtain rfl | rfl | rfl | rfl | rfl | rfl := h <;> cases e <;> simp [WindowEntry.byteValue] <;> omega

theorem witness_WriteWindowChecksAndEffect :
    panel.Ready ∧ 48 ≤ (48#8 : Byte).toNat ∧ (∀ e : WindowEntry, (0x70#8 : Byte).toNat ≠ e.byteValue) ∧
    (47#8 : Byte).toNat = (47 : WindowNo).val ∧ (0#8 : Byte).toNat = WindowEntry.unbound.byteValue ∧
    (0x6F#8 : Byte).toNat = (WindowEntry.point 47).byteValue ∧
    (0x87#8 : Byte).toNat = (WindowEntry.group 7).byteValue ∧
    (panelSwapping.Ready ∧ panelSwapping.swapPending = true) ∧ (panel.swapPending = false ∧ panel.live = .a) ∧
    (panelOnB.Ready ∧ panelOnB.swapPending = false ∧ panelOnB.live = .b) :=
  ⟨by decide +kernel, by decide, no_window_entry _ (by decide), by decide, by decide, by decide, by decide,
   by decide +kernel, by decide +kernel, by decide +kernel⟩

theorem witness_ReadWindowAndCopyLiveToStaging :
    panel.Ready ∧ 48 ≤ (48#8 : Byte).toNat ∧ 2 ≤ (2#8 : Byte).toNat ∧ (47#8 : Byte).toNat = (47 : WindowNo).val ∧
    (0#8 : Byte).toNat = 0 ∧ (1#8 : Byte).toNat = 1 ∧ (panelSwapping.Ready ∧ panelSwapping.swapPending = true) ∧
    (panel.swapPending = false ∧ panel.live = .a) ∧
    (panelOnB.Ready ∧ panelOnB.swapPending = false ∧ panelOnB.live = .b) := by decide +kernel

theorem witness_SwapBanksAndSwap :
    (panelSwapping.Ready ∧ panelSwapping.swapPending = true) ∧ panel.Ready ∧ panel.swapPending = false := by
  decide +kernel

theorem witness_SettersTakeTheirValues :
    panel.Ready ∧ (0#8 : Byte).toNat = 0 ∧ 16 < (17#8 : Byte).toNat ∧ 1 ≤ (1#8 : Byte).toNat ∧
    (16#8 : Byte).toNat ≤ 16 ∧ 2 ≤ (2#8 : Byte).toNat ∧ (1#8 : Byte).toNat < 2 ∧ (1#8 : Byte).toNat = 1 ∧
    15 < (16#8 : Byte).toNat ∧ ((0#8 : Byte).toNat ≠ 1 ∧ (2#8 : Byte).toNat ≠ 1 ∧ (15#8 : Byte).toNat ≤ 15) := by
  decide +kernel

/-- The panel in a lamp test that the host started. -/
def panelLampTest : State := { panel with hostTimer := 5000 }

theorem witness_LampTestStartsAndStops :
    panel.Ready ∧ 2 ≤ (2#8 : Byte).toNat ∧ (1#8 : Byte).toNat = 1 ∧ (0#8 : Byte).toNat = 0 ∧
    (panelLampTest.Ready ∧ 0 < panelLampTest.hostTimer) ∧ panel.hostTimer = 0 := by decide +kernel

theorem witness_ReadPanelReturnsThePanel : panelLampTest.Ready ∧ panelLampTest.DeviceRangeLaw := by decide +kernel

/-- The panel at the end of the last frame of a phase, and one frame earlier. -/
def panelPhaseEnd : State := { after .frameStart panel with frameCount := 15, phase := 7 }
def panelFrame14 : State := { after .frameStart panel with frameCount := 14 }

theorem witness_FrameStartTakesItsFourSteps :
    (panelPhaseEnd.frame ≠ none ∧ panelPhaseEnd.frameCount = 15 ∧ panelPhaseEnd.phaseAhead = false) ∧
    panel.frame = none ∧ panelFrame14.frameCount ≠ 15 ∧ (after .flashPhaseAdvance panelPhaseEnd).phaseAhead = true := by
  decide +kernel

theorem witness_FrameShowsTheLiveBank :
    (exec .frameStart panelLampTest = .next (after .frameStart panelLampTest) ∧
      (∃ img, (after .frameStart panelLampTest).frame = some img) ∧ 0 < panelLampTest.hostTimer) ∧
    (exec .frameStart panel = .next (after .frameStart panel) ∧ (∃ img, (after .frameStart panel).frame = some img) ∧
      panel.buttonTest = false ∧ panel.hostTimer = 0) :=
  ⟨⟨exec_after (by decide +kernel), Option.isSome_iff_exists.mp (by decide +kernel), by decide +kernel⟩,
   exec_after (by decide +kernel), Option.isSome_iff_exists.mp (by decide +kernel), by decide +kernel, by decide +kernel⟩

/-- No frame begun; drives not active; and W20 on RD3, CD4 and CD5. -/
theorem witness_DrivesScanTheFrame :
    panel.frame = none ∧
    (∃ img, (after .frameStart { panel with panelEnabled := false }).frame = some img ∧ img.active = false) ∧
    (∃ img, panelShowing.frame = some img ∧ img.active = true ∧ panelShowing.tickCount.val % 8 = (20 : WindowNo).val / 6 ∧
      (4 : Fin 12).val = 2 * ((20 : WindowNo).val % 6) ∧ (5 : Fin 12).val = 2 * ((20 : WindowNo).val % 6) + 1) := by
  refine ⟨by decide +kernel, ?_, ⟨_, rfl, by decide +kernel, by decide +kernel, by decide, by decide⟩⟩
  exact Option.any_eq_true (p := fun img : FrameImage => img.active == false) .. |>.mp (by decide +kernel) |>.imp
    fun _ h => ⟨h.1, by simpa using h.2⟩

theorem witness_ReadLinesReturnsTheLatestSample :
    panel.Ready ∧ exec .softReset panel = .next (after .softReset panel) ∧
    (∀ lines pins, Instr.softReset ≠ .sample lines pins) ∧ (∀ csLow, Instr.softReset ≠ .hardReset csLow) :=
  ⟨by decide +kernel, exec_after (by decide +kernel), nofun, nofun⟩

theorem witness_SampleTakesLinesAndButtonsInOrder : panelReceiving.AnnunciationLaws := panel_laws

theorem witness_SampleDebouncesEveryPoint : panel.AnnunciationLaws ∧
    exec (.sample 0xFFFFFFFE#32 0xF#4) panel = .next (after (.sample 0xFFFFFFFE#32 0xF#4) panel) ∧
    (panel.point 3).inService = true ∧ (panel.point 3).source ≠ .host ∧ (panel.point 47).source = .host :=
  ⟨panel_laws, exec_after (by decide +kernel), by decide +kernel, by decide +kernel, by decide +kernel⟩

/-- Every button up, nine samples into a press; and TSTn down, nine samples into its release. -/
def panelPressing : State := { panel with buttons := Vector.replicate 4 ⟨false, 9, 255#8⟩ }
def panelReleasing : State := { panel with buttons := panel.buttons.set 3 ⟨true, 9, 0#8⟩, buttonTest := true }

theorem witness_SampleDebouncesEveryButton :
    (exec (.sample 0xFFFFFFFF#32 0x0#4) panelPressing = .next (after (.sample 0xFFFFFFFF#32 0x0#4) panelPressing) ∧
      panelPressing.buttons[(3 : Fin 4)].accepts (pinPressed 0x0#4 3) = true ∧
      (panelPressing.buttons[(3 : Fin 4)].sampled (pinPressed 0x0#4 3)).pressed = true) ∧
    (exec (.sample 0xFFFFFFFF#32 0xF#4) panelReleasing = .next (after (.sample 0xFFFFFFFF#32 0xF#4) panelReleasing) ∧
      panelReleasing.buttons[(3 : Fin 4)].accepts (pinPressed 0xF#4 3) = true ∧
      (panelReleasing.buttons[(3 : Fin 4)].sampled (pinPressed 0xF#4 3)).pressed = false) ∧
    (exec (.sample 0xFFFFFFFF#32 0x7#4) panelReleasing = .next (after (.sample 0xFFFFFFFF#32 0x7#4) panelReleasing) ∧
      panelReleasing.buttons[(3 : Fin 4)].accepts (pinPressed 0x7#4 3) = false) :=
  ⟨⟨exec_after (by rfl), by decide +kernel, by decide +kernel⟩,
   ⟨exec_after (by rfl), by decide +kernel, by decide +kernel⟩, exec_after (by rfl), by decide +kernel⟩

theorem witness_ButtonLockAndReadButtons :
    panel.Ready ∧ panelReceiving.Ready ∧ 16 ≤ (16#8 : Byte).toNat ∧ (15#8 : Byte).toNat < 16 := by decide +kernel

/-- The panel at the last tick of both timers. -/
def panelLastTick : State := { panel with chimeTimer := 1, hostTimer := 1 }

theorem witness_TickRunsTheTimers :
    panelLastTick.chimeTimer = 1 ∧ panelLastTick.hostTimer = 1 ∧ panel.chimeTimer ≠ 1 ∧ panelLampTest.hostTimer ≠ 1 := by
  decide +kernel

/-- The panel once a boundary has been taken ahead of its second tick. -/
def panelBegun : State := { panel with second := .begun, uptime := 10 }

theorem panelBegun_laws : panelBegun.AnnunciationLaws :=
  ⟨panel_recordLaws, panel_laws.2.1, panel_laws.2.2.1, panel_laws.2.2.2.1, by decide +kernel, panel_laws.2.2.2.2.2.1,
    panel_laws.2.2.2.2.2.2.1, panel_laws.2.2.2.2.2.2.2.1, by decide +kernel⟩

theorem witness_SecondTickCountsAndExpires :
    (panel.AnnunciationLaws ∧ panel.second ≠ .begun) ∧ (panelBegun.AnnunciationLaws ∧ panelBegun.second = .begun) :=
  ⟨⟨panel_laws, by decide +kernel⟩, panelBegun_laws, by decide +kernel⟩

/-- The panel, and the panel after a boundary, with P2 in the last second of its slot. -/
def panelExpiring : State := { panel with slots := panel.slots.set 0 (some ⟨2, 1⟩) }
def panelBegunExpiring : State := { panelBegun with slots := panel.slots.set 0 (some ⟨2, 1⟩) }

theorem panelExpiring_shelfLaw : panelExpiring.ShelfLaw := by decide +kernel

theorem panelExpiring_laws : panelExpiring.AnnunciationLaws :=
  ⟨panel_recordLaws, panel_laws.2.1, panel_laws.2.2.1, panel_laws.2.2.2.1, panel_laws.2.2.2.2.1,
    panel_laws.2.2.2.2.2.1, panelExpiring_shelfLaw, panel_laws.2.2.2.2.2.2.2.1, panel_laws.2.2.2.2.2.2.2.2⟩

theorem panelBegunExpiring_laws : panelBegunExpiring.AnnunciationLaws :=
  ⟨panel_recordLaws, panel_laws.2.1, panel_laws.2.2.1, panel_laws.2.2.2.1, panelBegun_laws.2.2.2.2.1,
    panel_laws.2.2.2.2.2.1, panelExpiring_shelfLaw, panel_laws.2.2.2.2.2.2.2.1, panelBegun_laws.2.2.2.2.2.2.2.2⟩

theorem witness_ShelfExpiryReturnsThePoint :
    (panelExpiring.AnnunciationLaws ∧ panelExpiring.slot 0 = some ⟨2, 1⟩ ∧ panelExpiring.second = .notBegun) ∧
    (panelBegunExpiring.AnnunciationLaws ∧ panelBegunExpiring.slot 0 = some ⟨2, 1⟩ ∧
      panelBegunExpiring.second = .begun) ∧
    (∀ (j : SlotNo) (r : SlotRec), j < 0 → panelExpiring.slot j = some r → r.remaining ≠ 1) ∧
    (panel.AnnunciationLaws ∧ ∀ (k : SlotNo) (r : SlotRec), panel.slot k = some r → r.remaining ≠ 1) ∧
    ({ panelExpiring with second := .taken }.AnnunciationLaws ∧ { panelExpiring with second := .taken }.second = .taken) :=
  ⟨⟨panelExpiring_laws, by decide +kernel, by decide +kernel⟩,
   ⟨panelBegunExpiring_laws, by decide +kernel, by decide +kernel⟩, fun j _ h => absurd h (Fin.not_lt_zero j),
   ⟨panel_laws, by decide +kernel⟩, panelExpiring_laws, rfl⟩

/-- The panel at uptime 9, 10 with the second tick begun, 9 with it taken, and 0. -/
theorem witness_WindowBoundaryJudgesTheLockouts :
    (panel.AnnunciationLaws ∧ panel.second = .notBegun ∧ panel.uptime < 0xFFFFFFFE ∧ (panel.uptime + 1) % 10 = 0) ∧
    (panelBegun.AnnunciationLaws ∧ panelBegun.uptime ≠ 0 ∧ panelBegun.uptime % 10 = 0) ∧
    ({ panel with second := .taken }.AnnunciationLaws ∧ panel.uptime % 10 ≠ 0 ∧ SecondStage.taken ≠ .notBegun) ∧
    (State.reset.AnnunciationLaws ∧ State.reset.uptime = 0) :=
  ⟨⟨panel_laws, by decide +kernel, by decide +kernel, by decide +kernel⟩,
   ⟨panelBegun_laws, by decide +kernel, by decide +kernel⟩, ⟨panel_laws, by decide +kernel, by decide⟩,
   ⟨⟨⟨by decide +kernel, by decide +kernel, by decide +kernel, by decide +kernel, by decide +kernel⟩, by decide +kernel,
     by decide +kernel, by decide +kernel, by decide +kernel, by decide +kernel, by decide +kernel, by decide +kernel,
     by decide +kernel⟩, rfl⟩⟩

theorem witness_ReadUptimeReturnsTheUptime :
    ({ panel with uptime := 0xFFFFFFFE }.Ready ∧ { panel with uptime := 0xFFFFFFFE }.uptime ≤ 0xFFFFFFFE) ∧
    exec .secondTick panel = .next (after .secondTick panel) ∧ (∀ csLow, Instr.secondTick ≠ .hardReset csLow) :=
  ⟨by decide +kernel, exec_after (by decide +kernel), nofun⟩

theorem witness_CausesAreReadClearedAndEnabled : panel.Ready ∧ panelReceiving.Ready := by decide +kernel

end Sys2Proof.Tests
end

section
/-!
The operand bytes of the point table's commands: each reading answers exactly the value whose byte it is (R172, E.4).
-/

namespace Sys2Proof.Machine

theorem pointNo?_eq_none {b : Byte} (h : 48 ≤ b.toNat) : pointNo? b = none :=
  dif_neg (Nat.not_lt.2 h)

theorem pointNo?_eq_some {b : Byte} {p : PointNo} (h : b.toNat = p.val) : pointNo? b = some p := by
  simp only [pointNo?, h, p.isLt, dite_true, Fin.eta]

/-- E.4: every byte value but 0 to 31 and 80H is no source. -/
theorem source?_eq_none {b : Byte} (h : 32 ≤ b.toNat ∧ b.toNat ≠ 0x80) : source? b = none := by
  obtain ⟨hline, hhost⟩ := h
  have hb : b ≠ 0x80#8 := fun e => hhost (e ▸ rfl)
  simp only [source?, Nat.not_lt.2 hline, hb, dite_false, if_false]

theorem source?_eq_some {b : Byte} {src : Source} (h : b.toNat = src.byteValue) : source? b = some src := by
  cases src with
  | line k =>
    have hk : b.toNat = k.val := h
    simp only [source?, hk, k.isLt, dite_true, Fin.eta]
  | host =>
    have hb : b = 0x80#8 := BitVec.eq_of_toNat_eq h
    subst hb
    rfl

theorem debounce?_eq_none {b : Byte} (h : b.toNat = 0 ∨ 250 < b.toNat) : debounce? b = none :=
  if_neg (by omega)

theorem debounce?_eq_some {b : Byte} {n : Nat} (h : b.toNat = n) (hlo : 1 ≤ n) (hhi : n ≤ 250) :
    debounce? b = some n := by
  subst h
  exact if_pos ⟨hlo, hhi⟩

/-! ### The fields of the options byte (E.4) -/

/-- A field of a byte, as a number. -/
theorem toNat_field (b : Byte) (start len : Nat) :
    (b.extractLsb' start len).toNat = b.toNat / 2 ^ start % 2 ^ len := by
  rw [BitVec.extractLsb'_toNat, Nat.shiftRight_eq_div_pow]

theorem seqType?_eq_none {b : Byte} (h : b.toNat / 32 % 4 = 3) : seqType? b = none := by
  have hf : (b.extractLsb' 5 2).toNat = 3 := (toNat_field b 5 2).trans h
  simp only [seqType?, hf]

theorem seqType?_eq_some {b : Byte} {t : SeqType} (h : b.toNat / 32 % 4 = t.code) : seqType? b = some t := by
  have hf : (b.extractLsb' 5 2).toNat = t.code := (toNat_field b 5 2).trans h
  cases t <;> simp only [seqType?, hf, SeqType.code]

theorem polarityOf_eq {b : Byte} {pol : Polarity} (h : b.toNat / 128 = if pol = .whenOpen then 1 else 0) :
    polarityOf b = pol := by
  have hbit : b.getLsbD 7 = decide (b.toNat / 128 % 2 = 1) := Nat.testBit_eq_decide_div_mod_eq
  unfold polarityOf
  rw [hbit]
  cases pol <;> simp [h]

theorem classOf_eq {b : Byte} {c : ClassNo} (h : b.toNat / 8 % 4 = c.val) : classOf b = c :=
  Fin.ext ((toNat_field b 3 2).trans h)

theorem groupOf_eq {b : Byte} {g : GroupNo} (h : b.toNat % 8 = g.val) : groupOf b = g :=
  Fin.ext ((toNat_field b 0 3).trans (by simpa using h))

/-- The fields of an options byte are those of the configuration whose value it has (E.4). -/
theorem options_fields {b : Byte} {c : PointConfig} (h : b.toNat = c.optionsValue) :
    polarityOf b = c.polarity ∧ seqType? b = some c.seqType ∧ classOf b = c.cls ∧ groupOf b = c.group := by
  have ht : c.seqType.code ≤ 2 := by cases c.seqType <;> decide
  have hc : c.cls.val < 4 := c.cls.isLt
  have hg : c.group.val < 8 := c.group.isLt
  unfold PointConfig.optionsValue at h
  refine ⟨polarityOf_eq ?_, seqType?_eq_some ?_, classOf_eq ?_, groupOf_eq ?_⟩ <;>
    by_cases hp : c.polarity = .whenOpen <;> simp only [hp, if_true, if_false] at h ⊢ <;> omega

/-- Check 3 of R8 fails where the source, the sequence type or the debounce count is out of range. -/
theorem pointConfig?_eq_none {source options debounce : Byte}
    (h : (32 ≤ source.toNat ∧ source.toNat ≠ 0x80) ∨ options.toNat / 32 % 4 = 3 ∨ debounce.toNat = 0 ∨
      250 < debounce.toNat) : pointConfig? source options debounce = none := by
  unfold pointConfig?
  split
  next hsrc htype hdeb =>
    rcases h with h | h | h
    · simp [source?_eq_none h] at hsrc
    · simp [seqType?_eq_none h] at htype
    · simp [debounce?_eq_none h] at hdeb
  next => rfl

/-- The bytes of a configuration are read as that configuration (E.4). -/
theorem pointConfig?_eq_some {source options debounce : Byte} {c : PointConfig}
    (hsrc : source.toNat = c.source.byteValue) (hopt : options.toNat = c.optionsValue)
    (hdeb : debounce.toNat = c.debounce) (hlo : 1 ≤ c.debounce) (hhi : c.debounce ≤ 250) :
    pointConfig? source options debounce = some c := by
  obtain ⟨hpol, htype, hcls, hgrp⟩ := options_fields hopt
  simp only [pointConfig?, source?_eq_some hsrc, htype, debounce?_eq_some hdeb hlo hhi, hpol, hcls, hgrp]

end Sys2Proof.Machine
end

section
/-!
What a change of a point's state leaves (R41): the model's five steps, taken one after the other, come to the closed
form `State.changedTo`.
-/

namespace Sys2Proof.Machine

section

variable (s : State)

/-! ### One unit's act, in closed form -/

/-- A group written with the record it holds. -/
theorem setGroup_groupRec (g : GroupNo) : s.setGroup g (s.groupRec g) = s := by
  simp [State.setGroup, State.groupRec]

/-- A new entry (step 2 of R41). -/
theorem enterList_eq (p : PointNo) (h : s.ClassOrderLaw) : s.enterList p =
    { s with
      points := s.points.set p { s.point p with entryTime := some s.uptime, repeatCount := 0 }
      standing := s.endOfClass p (s.point p).cls s.standing
      lgen := s.lgen + 1#16 }.withCauses 0x20#8 := by
  unfold State.enterList
  rw [listInsert_eq s p h]
  rfl

/-- The entry of a listed point gone (step 2 of R41). -/
theorem leaveList_eq {p : PointNo} (h : p ∈ s.standing) : s.leaveList p =
    { s with
      points := s.points.set p { s.point p with entryTime := none }
      standing := withoutEntry p s.standing
      cursor := if s.cursor = some p then entryAfter p s.standing else s.cursor
      mark := if s.mark = Mark.entry p then .lost else s.mark
      lgen := s.lgen + 1#16 }.withCauses 0x20#8 := by
  unfold State.leaveList
  rw [if_pos ((mem_standing_iff_isListed s p).1 h), listRemove_eq]
  rfl

/-- Steps 4 and 5 of R41. -/
theorem reportAudible_eq (p : PointNo) (d : AnnState) (b : Bool) : s.reportAudible p d b =
    { s with
      horn := if b then s.hornWith s.points else s.horn
      chimeTimer :=
        if (d = AnnState.clearedNew ∨ d = AnnState.ringback) ∧ (s.classOption (s.point p).cls).chime then 500
        else s.chimeTimer }.withCauses
      ((if d = AnnState.alarmNew then 0x01#8 else 0#8) |||
        (if d = AnnState.clearedNew ∨ d = AnnState.ringback then 0x02#8 else 0#8)) := by
  have hhorn : (if b then s.refreshHorn else s) = { s with horn := if b then s.hornWith s.points else s.horn } := by
    cases b <;> rfl
  have hchime : ∀ t : State, t.pointChime p =
      { t with chimeTimer := if (t.classOption (t.point p).cls).chime then 500 else t.chimeTimer } := by
    intro t
    unfold State.pointChime
    split <;> rfl
  unfold State.reportAudible
  rw [hhorn]
  cases d with
  | quiet => simp [State.withCauses]
  | alarmNew => simp [setCause_eq_withCauses, Cause.bit]
  | alarmAcked => simp [State.withCauses]
  | clearedNew =>
    simp [setCause_eq_withCauses, Cause.bit, hchime]
    rfl
  | ringback =>
    simp [setCause_eq_withCauses, Cause.bit, hchime]
    rfl

end

/-! ### What the sequence engine leaves of a record -/

/-- A record with the fields that the sequence engine writes (R41) blanked: what is left is what no event moves. -/
def PointRec.unsequenced (r : PointRec) : PointRec :=
  { r with state := .quiet, sounding := false, repeatCount := 0, entryTime := none, lastChange := none }

/-- The records of `t` differ from those of `s` in the fields that the sequence engine writes, and in no other. -/
def SeqRecords (s t : State) : Prop := ∀ q, (t.point q).unsequenced = (s.point q).unsequenced

namespace SeqRecords

variable {s t u : State}

theorem refl (s : State) : SeqRecords s s := fun _ => rfl

theorem trans (h₁ : SeqRecords s t) (h₂ : SeqRecords t u) : SeqRecords s u := fun q => (h₂ q).trans (h₁ q)

theorem of_setPoint {p : PointNo} {r : PointRec} (h : r.unsequenced = (s.point p).unsequenced) :
    SeqRecords s (s.setPoint p r) := by
  intro q
  by_cases hq : q = p
  · subst hq
    rw [point_setPoint_self, h]
  · rw [point_setPoint_ne s r hq]

/-- A field that the engine does not write is the same. -/
theorem field_eq {α : Type} (h : SeqRecords s t) (f : PointRec → α) (hf : ∀ r : PointRec, f r.unsequenced = f r)
    (q : PointNo) : f (t.point q) = f (s.point q) := by
  rw [← hf (t.point q), h q, hf]

theorem inService_eq (h : SeqRecords s t) (q : PointNo) : (t.point q).inService = (s.point q).inService :=
  h.field_eq (fun r => r.inService) (fun _ => rfl) q
theorem cls_eq (h : SeqRecords s t) (q : PointNo) : (t.point q).cls = (s.point q).cls :=
  h.field_eq (fun r => r.cls) (fun _ => rfl) q
theorem group_eq (h : SeqRecords s t) (q : PointNo) : (t.point q).group = (s.point q).group :=
  h.field_eq (fun r => r.group) (fun _ => rfl) q
theorem seqType_eq (h : SeqRecords s t) (q : PointNo) : (t.point q).seqType = (s.point q).seqType :=
  h.field_eq (fun r => r.seqType) (fun _ => rfl) q

theorem endOfClass_eq (h : SeqRecords s t) (p : PointNo) (c : ClassNo) (l : List PointNo) :
    t.endOfClass p c l = s.endOfClass p c l := by
  simp only [State.endOfClass, h.cls_eq]

theorem quietWith_eq (h : SeqRecords s t) (g : GroupNo) (l : List PointNo) : t.quietWith g l = s.quietWith g l := by
  simp only [State.quietWith, h.group_eq, h.seqType_eq]

theorem classOrder (h : SeqRecords s t) (hl : t.standing = s.standing) (hs : s.ClassOrderLaw) : t.ClassOrderLaw := by
  simpa only [State.ClassOrderLaw, h.cls_eq, hl] using hs

end SeqRecords

section

variable (s : State) (p : PointNo)

theorem recordChange_seqRecords {s : State} {p : PointNo} {tr : Transition} : SeqRecords s (s.recordChange p tr) :=
  SeqRecords.of_setPoint rfl

theorem enterList_seqRecords : SeqRecords s (s.enterList p) :=
  SeqRecords.of_setPoint (s := s.listInsert p) rfl

theorem leaveList_seqRecords : SeqRecords s (s.leaveList p) := by
  unfold State.leaveList
  split
  · exact SeqRecords.of_setPoint (s := s.listRemove p) rfl
  · exact SeqRecords.refl s

theorem groupNotice_seqRecords (n : Notice) : SeqRecords s (s.groupNotice n p) := fun _ => rfl

theorem reportList_seqRecords (old new : AnnState) : SeqRecords s (s.reportList p old new) := by
  have henter : SeqRecords s (s.enterList p) := enterList_seqRecords s p
  unfold State.reportList
  split
  · dsimp only
    split
    · exact henter.trans (groupNotice_seqRecords _ p _)
    · exact henter
  · split
    · exact (leaveList_seqRecords s p).trans (groupNotice_seqRecords _ p _)
    · exact SeqRecords.refl s

theorem reportAudible_seqRecords (new : AnnState) (b : Bool) : SeqRecords s (s.reportAudible p new b) := by
  rw [reportAudible_eq]
  exact fun _ => rfl

theorem applyTransition_seqRecords (tr : Transition) : SeqRecords s (s.applyTransition p tr) :=
  (recordChange_seqRecords.trans (reportList_seqRecords _ p _ _)).trans (reportAudible_seqRecords _ p _ _)

theorem seqEvent_seqRecords (ev : SeqEvent) : SeqRecords s (s.seqEvent p ev) := by
  rcases seqEvent_cases s p ev with ⟨-, h⟩ | ⟨tr, -, h⟩ <;> rw [h]
  · exact SeqRecords.refl s
  · exact applyTransition_seqRecords s p tr

theorem arriveIfOffNormal_seqRecords : SeqRecords s (s.arriveIfOffNormal p) := by
  unfold State.arriveIfOffNormal
  split
  · exact seqEvent_seqRecords s p _
  · exact SeqRecords.refl s

end

/-! ### The rows of the sequence tables -/

/-- What a row of a sequence table that a point of record `r` meets is like (R37, R39, R40, R42, R43, R44): it changes
the state; the sounding flag is then set in ALARM-NEW, kept in CLEARED-NEW and clear otherwise; it re-alerts exactly when it
brings ALARM-NEW to a point that is not QUIET; and it brings no STATUS point to ALARM-NEW. -/
structure Transition.Regular (tr : Transition) (r : PointRec) : Prop where
  dest_ne : tr.dest ≠ r.state
  sound_eq : tr.sound.apply r.sounding = (tr.dest == .alarmNew || (tr.dest == .clearedNew && r.sounding))
  realert_eq : tr.realert = (tr.dest == .alarmNew && r.state != .quiet)
  status_ne : r.seqType = .status → tr.dest ≠ .alarmNew

section

variable {r : PointRec} {ev : SeqEvent} {tr : Transition}

/-- R39 in the states in which no flag may be set. -/
theorem PointRec.SoundingLaw.eq_false (hs : r.SoundingLaw) (hnew : r.state ≠ .alarmNew)
    (hcleared : r.state ≠ .clearedNew) : r.sounding = false := by
  by_contra hb
  obtain ⟨hst | hst, -⟩ := hs (by simpa using hb)
  · exact hnew hst
  · exact hcleared hst

theorem latchingTable_regular (ht : r.seqType ≠ .status) (hs : r.SoundingLaw)
    (h : latchingTable r.state ev = some tr) : tr.Regular r := by
  have hquiet := hs.eq_false
  unfold latchingTable at h
  split at h
  case h_9 => cases h
  all_goals
    cases h
    constructor <;> simp_all [Sound.apply]

theorem selfClearingTable_regular (ht : r.seqType ≠ .status) (hs : r.SoundingLaw)
    (h : selfClearingTable r.state ev = some tr) : tr.Regular r := by
  have hquiet := hs.eq_false
  unfold selfClearingTable at h
  split at h
  case h_3 => cases h
  case h_4 => exact latchingTable_regular ht hs h
  all_goals
    cases h
    constructor <;> simp_all [Sound.apply]

theorem statusTable_regular (ht : r.seqType = .status) (hs : r.SoundingLaw)
    (h : statusTable r.state ev = some tr) : tr.Regular r := by
  have hflag : r.sounding = false := by
    by_contra hb
    exact (hs (by simpa using hb)).2 ht
  unfold statusTable at h
  split at h
  case h_3 => cases h
  all_goals
    cases h
    constructor <;> simp_all [Sound.apply]

/-- Every row that a point whose flag keeps R39 can meet is regular. -/
theorem seqTable_regular (hs : r.SoundingLaw) (h : seqTable r.seqType r.state ev = some tr) : tr.Regular r := by
  cases ht : r.seqType with
  | latching => exact latchingTable_regular (by simp [ht]) hs (by simpa [seqTable, ht] using h)
  | selfClearing => exact selfClearingTable_regular (by simp [ht]) hs (by simpa [seqTable, ht] using h)
  | status => exact statusTable_regular ht hs (by simpa [seqTable, ht] using h)

end

/-! ### The record of a change (step 1 of R41) -/

/-- The record after step 1 of R41. -/
def PointRec.recorded (r : PointRec) (tr : Transition) (now : Nat) : PointRec :=
  { r with
    state := tr.dest
    lastChange := some now
    sounding := tr.sound.apply r.sounding
    repeatCount := if tr.realert then min 255 (r.repeatCount + 1) else r.repeatCount }

theorem recordChange_eq (s : State) (p : PointNo) (tr : Transition) :
    s.recordChange p tr = s.setPoint p ((s.point p).recorded tr s.uptime) := rfl

section

variable {r : PointRec} {tr : Transition} (now : Nat)

/-- A regular row leaves the sounding flag that R39 gives. -/
theorem Transition.Regular.entered_sounding (h : tr.Regular r) :
    (r.entered tr.dest now).sounding = tr.sound.apply r.sounding := h.sound_eq.symm

/-- A new entry completes the record of an arrival. -/
theorem recorded_entry (h : tr.Regular r) (hq : r.state = .quiet) :
    { r.recorded tr now with entryTime := some now, repeatCount := 0 } = r.entered tr.dest now := by
  have hd : tr.dest ≠ .quiet := hq ▸ h.dest_ne
  simp [PointRec.recorded, PointRec.entered, h.sound_eq, hq, hd]

/-- An entry taken away completes the record of a return to QUIET. -/
theorem recorded_noEntry (h : tr.Regular r) (hd : tr.dest = .quiet) :
    { r.recorded tr now with entryTime := none } = r.entered tr.dest now := by
  have hq : r.state ≠ .quiet := fun e => h.dest_ne (hd.trans e.symm)
  simp [PointRec.recorded, PointRec.entered, h.sound_eq, h.realert_eq, hq, hd]

/-- A change between two states other than QUIET needs nothing more. -/
theorem recorded_eq_entered (h : tr.Regular r) (hq : r.state ≠ .quiet) (hd : tr.dest ≠ .quiet) :
    r.recorded tr now = r.entered tr.dest now := by
  simp [PointRec.recorded, PointRec.entered, h.sound_eq, h.realert_eq, hq, hd]

end

/-! ### The list and the group (steps 2 and 3 of R41) -/

/-- A change of `p` from QUIET to `d` with its new entry, before the group has its notice. -/
def State.entryAdded (s : State) (p : PointNo) (d : AnnState) : State :=
  { s.setPoint p ((s.point p).entered d s.uptime) with
    standing := s.endOfClass p (s.point p).cls s.standing
    lgen := s.lgen + 1#16 }.withCauses 0x20#8

/-- A change of `p` to QUIET with its entry gone, before the group has its notice. -/
def State.entryTaken (s : State) (p : PointNo) : State :=
  { s.setPoint p ((s.point p).entered .quiet s.uptime) with
    standing := withoutEntry p s.standing
    cursor := if s.cursor = some p then entryAfter p s.standing else s.cursor
    mark := if s.mark = Mark.entry p then .lost else s.mark
    lgen := s.lgen + 1#16 }.withCauses 0x20#8

/-- What steps 1 to 3 of R41 leave: the outcome of the change but for HORN, the chime and the causes that steps 4 and 5
set. -/
def State.relistedTo (s : State) (p : PointNo) (d : AnnState) : State :=
  { s.changedTo p d with horn := s.horn, chimeTimer := s.chimeTimer, causes := s.causes, attn := s.attn }.withCauses
    (if (s.point p).state == AnnState.quiet ∨ d == AnnState.quiet then 0x20#8 else 0#8)

variable {s : State} {p : PointNo} {d : AnnState} {tr : Transition}

theorem entryAdded_seqRecords : SeqRecords s (s.entryAdded p d) :=
  SeqRecords.of_setPoint (r := (s.point p).entered d s.uptime) rfl

theorem entryTaken_seqRecords : SeqRecords s (s.entryTaken p) :=
  SeqRecords.of_setPoint (r := (s.point p).entered .quiet s.uptime) rfl

theorem relistedTo_of_arrival (hq : (s.point p).state = .quiet) (hd : d ≠ .quiet) :
    s.relistedTo p d = (s.entryAdded p d).setGroup (s.point p).group
      { s.groupRec (s.point p).group with
        firstOut :=
          if d = .alarmNew ∧ (s.groupRec (s.point p).group).firstOut = FirstOut.armed then .held p
          else (s.groupRec (s.point p).group).firstOut } := by
  simp [State.relistedTo, State.changedTo, State.entryAdded, State.withCauses, State.setGroup, State.setPoint, hq, hd]

theorem relistedTo_of_return (hq : (s.point p).state ≠ .quiet) :
    s.relistedTo p .quiet = (s.entryTaken p).setGroup (s.point p).group
      { s.groupRec (s.point p).group with
        firstOut :=
          if s.quietWith (s.point p).group (withoutEntry p s.standing) ∧
            (s.groupRec (s.point p).group).firstOut ≠ FirstOut.off then .armed
          else (s.groupRec (s.point p).group).firstOut } := by
  simp [State.relistedTo, State.changedTo, State.entryTaken, State.withCauses, State.setGroup, State.setPoint, hq]

theorem relistedTo_of_other (hq : (s.point p).state ≠ .quiet) (hd : d ≠ .quiet) :
    s.relistedTo p d = s.setPoint p ((s.point p).entered d s.uptime) := by
  have hgroup : s.groups.set (s.point p).group (s.groupRec (s.point p).group) = s.groups :=
    congrArg State.groups (setGroup_groupRec s (s.point p).group)
  simp [State.relistedTo, State.changedTo, State.withCauses, State.setPoint, hq, hd, hgroup]

theorem recordChange_enterList (hrow : tr.Regular (s.point p)) (horder : s.ClassOrderLaw)
    (hq : (s.point p).state = .quiet) : (s.recordChange p tr).enterList p = s.entryAdded p tr.dest := by
  have hrec : SeqRecords s (s.recordChange p tr) := recordChange_seqRecords
  rw [enterList_eq _ p (hrec.classOrder rfl horder), hrec.endOfClass_eq, hrec.cls_eq, recordChange_eq,
    point_setPoint_self, State.entryAdded, ← recorded_entry s.uptime hrow hq]
  simp only [State.setPoint, Vector.set_set]

theorem recordChange_leaveList (hrow : tr.Regular (s.point p)) (hlisted : p ∈ s.standing) (hd : tr.dest = .quiet) :
    (s.recordChange p tr).leaveList p = s.entryTaken p := by
  rw [leaveList_eq (s.recordChange p tr) hlisted, recordChange_eq, point_setPoint_self, State.entryTaken, ← hd,
    ← recorded_noEntry s.uptime hrow hd]
  simp only [State.setPoint, Vector.set_set]
  rfl

theorem reportList_of_arrival (hrow : tr.Regular (s.point p)) (horder : s.ClassOrderLaw)
    (hq : (s.point p).state = .quiet) :
    (s.recordChange p tr).reportList p (s.point p).state tr.dest = s.relistedTo p tr.dest := by
  have hd : tr.dest ≠ .quiet := hq ▸ hrow.dest_ne
  have hrec : SeqRecords s (s.entryAdded p tr.dest) := entryAdded_seqRecords
  unfold State.reportList
  rw [if_pos ⟨hq, hd⟩, recordChange_enterList hrow horder hq, relistedTo_of_arrival hq hd]
  by_cases hnew : tr.dest = .alarmNew
  · have htype : (s.point p).seqType ≠ .status := fun ht => hrow.status_ne ht hnew
    rw [if_pos ⟨by rwa [hrec.seqType_eq], hnew⟩, groupNotice_eq, noticeTable_newAlert, hrec.group_eq]
    simp only [hnew, true_and]
    rfl
  · rw [if_neg fun h => hnew h.2, if_neg fun h => hnew h.1]
    exact (setGroup_groupRec _ _).symm

theorem reportList_of_return (hrow : tr.Regular (s.point p)) (hlisted : p ∈ s.standing) (hd : tr.dest = .quiet) :
    (s.recordChange p tr).reportList p (s.point p).state tr.dest = s.relistedTo p tr.dest := by
  have hq : (s.point p).state ≠ .quiet := fun e => hrow.dest_ne (hd.trans e.symm)
  have hlisted' : (s.recordChange p tr).isListed p = true := (mem_standing_iff_isListed s p).1 hlisted
  have hrec : SeqRecords s (s.entryTaken p) := entryTaken_seqRecords
  unfold State.reportList
  rw [if_neg fun h => h.2 hd, if_pos ⟨hd, hlisted'⟩, recordChange_leaveList hrow hlisted hd, hd,
    relistedTo_of_return hq, groupNotice_eq, noticeTable_leftList, hrec.group_eq, hrec.quietWith_eq]
  rfl

theorem reportList_of_other (hrow : tr.Regular (s.point p)) (hq : (s.point p).state ≠ .quiet) (hd : tr.dest ≠ .quiet) :
    (s.recordChange p tr).reportList p (s.point p).state tr.dest = s.relistedTo p tr.dest := by
  unfold State.reportList
  rw [if_neg fun h => hq h.1, if_neg fun h => hd h.1, relistedTo_of_other hq hd, recordChange_eq,
    recorded_eq_entered _ hrow hq hd]

/-- Steps 1 to 3 of R41 in closed form. -/
theorem recordChange_reportList (hrow : tr.Regular (s.point p)) (horder : s.ClassOrderLaw)
    (hlisted : (s.point p).state ≠ .quiet → p ∈ s.standing) :
    (s.recordChange p tr).reportList p (s.point p).state tr.dest = s.relistedTo p tr.dest := by
  by_cases hq : (s.point p).state = .quiet
  · exact reportList_of_arrival hrow horder hq
  · by_cases hd : tr.dest = .quiet
    · exact reportList_of_return hrow (hlisted hq) hd
    · exact reportList_of_other hrow hq hd

/-! ### The whole change -/

/-- HORN, the chime and the last causes complete the outcome. -/
theorem relistedTo_reportAudible :
    (s.relistedTo p d).reportAudible p d (((s.point p).entered d s.uptime).sounding != (s.point p).sounding) =
      s.changedTo p d := by
  have hrec : SeqRecords s (s.relistedTo p d) := SeqRecords.of_setPoint (r := (s.point p).entered d s.uptime) rfl
  have hhorn : (if ((s.point p).entered d s.uptime).sounding != (s.point p).sounding then
      (s.relistedTo p d).hornWith (s.relistedTo p d).points else (s.relistedTo p d).horn) = (s.changedTo p d).horn := by
    by_cases h : ((s.point p).entered d s.uptime).sounding = (s.point p).sounding
    · simp [h, State.changedTo, State.relistedTo, State.withCauses]
    · simp [h, State.changedTo, State.relistedTo, State.withCauses, State.hornWith]
  rw [reportAudible_eq, hhorn, hrec.cls_eq]
  calc _ = ({ s.changedTo p d with causes := s.causes, attn := s.attn }.withCauses
              (if (s.point p).state == AnnState.quiet ∨ d == AnnState.quiet then 0x20#8 else 0#8)).withCauses
            ((if d = AnnState.alarmNew then 0x01#8 else 0#8) |||
              (if d = AnnState.clearedNew ∨ d = AnnState.ringback then 0x02#8 else 0#8)) := rfl
    _ = s.changedTo p d := by
      rw [withCauses_withCauses, ← BitVec.or_assoc]
      rfl

/-- A change of state, by a regular row, leaves what R41 says. -/
theorem applyTransition_eq_changedTo (hrow : tr.Regular (s.point p)) (horder : s.ClassOrderLaw)
    (hlisted : (s.point p).state ≠ .quiet → p ∈ s.standing) : s.applyTransition p tr = s.changedTo p tr.dest := by
  unfold State.applyTransition
  dsimp only
  rw [recordChange_reportList hrow horder hlisted, ← hrow.entered_sounding s.uptime, relistedTo_reportAudible]

/-! ### Arrivals (R13) -/

theorem transition?_eq_seqTable {ev : SeqEvent} (hin : (s.point p).inService = true)
    (hshelf : (s.point p).shelf = none) :
    s.transition? p ev = seqTable (s.point p).seqType (s.point p).state ev := by
  simp [State.transition?, hin, hshelf]

/-- An event that meets a row brings what R41 says of the row's state. -/
theorem seqEvent_eq_changedTo {ev : SeqEvent} (hin : (s.point p).inService = true) (hshelf : (s.point p).shelf = none)
    (hrow : seqTable (s.point p).seqType (s.point p).state ev = some tr) (hsound : (s.point p).SoundingLaw)
    (horder : s.ClassOrderLaw) (hlisted : (s.point p).state ≠ .quiet → p ∈ s.standing) :
    s.seqEvent p ev = s.changedTo p tr.dest := by
  unfold State.seqEvent
  rw [transition?_eq_seqTable hin hshelf, hrow]
  exact applyTransition_eq_changedTo (seqTable_regular hsound hrow) horder hlisted

/-- The off-normal row of QUIET, in every sequence table (R42, R43, R44). -/
theorem seqTable_quiet_offNormal (t : SeqType) :
    ∃ tr, seqTable t .quiet .offNormal = some tr ∧ tr.dest = t.offNormalState := by
  cases t <;> exact ⟨_, rfl, rfl⟩

/-- A QUIET point arrives if it is off-normal. -/
theorem arriveIfOffNormal_eq_arrived (hin : (s.point p).inService = true) (hshelf : (s.point p).shelf = none)
    (hquiet : (s.point p).state = .quiet) (hflag : (s.point p).sounding = false) (horder : s.ClassOrderLaw) :
    s.arriveIfOffNormal p = s.arrived p := by
  obtain ⟨tr, hrow, hdest⟩ := seqTable_quiet_offNormal (s.point p).seqType
  have hsound : (s.point p).SoundingLaw := fun h => absurd (hflag.symm.trans h) Bool.false_ne_true
  have hevent : s.seqEvent p .offNormal = s.changedTo p (s.point p).seqType.offNormalState := by
    rw [← hdest]
    exact seqEvent_eq_changedTo hin hshelf (hquiet ▸ hrow) hsound horder fun h => absurd hquiet h
  unfold State.arriveIfOffNormal State.arrived
  rw [hevent]

/-- An arrival neither reads nor moves the host link. -/
theorem arrived_link (l : Link) : { s with link := l }.arrived p = { s.arrived p with link := l } := by
  have hpoint : { s with link := l }.point p = s.point p := rfl
  unfold State.arrived
  rw [hpoint]
  split <;> rfl

end Sys2Proof.Machine
end

section
/-!
The commands DEFINE POINT and PLACE IN SERVICE: the outcome of each check, and the two statements about them.
-/

namespace Sys2Proof.Machine

/-- Where the answer alone is known to be the same whatever the link holds, the row gives what the unit makes of `s`
with some link in it, and then the link as the answer leaves it. It serves where no law is at hand that says what the unit
makes. -/
theorem hostCommand_answered_exists {s : State} {c : Instr} {body : State → State × Answer} {a : Answer} (hr : s.Ready)
    (hb : ∀ l : Link, (body { s with link := l }).2 = a) :
    ∃ l, hostCommand c body s =
      .next { (body { s with link := l }).1 with link := s.answered c a.result a.data } := by
  rcases hr with h | h
  · refine ⟨s.openTransaction.link, ?_⟩
    have ha : (body s.openTransaction).2 = a := hb s.openTransaction.link
    rw [hostCommand_idle h, ← openTransaction_eq]
    unfold State.takeCommand
    dsimp only
    rw [ha]
    simp [State.raiseCs, State.answered, State.openTransaction, h]
  · refine ⟨s.link, ?_⟩
    have ha : (body s).2 = a := hb s.link
    rw [hostCommand_receiving h]
    simp [State.takeCommand, ha, State.answered, h]

variable {point source options debounce : Byte} {p : PointNo} {s : State}

/-! ### DEFINE POINT (R8, R9) -/

theorem exec_definePoint (point source options debounce : Byte) (s : State) :
    exec (.definePoint point source options debounce) s =
      hostCommand (.definePoint point source options debounce)
        (State.definePoint point source options debounce) s := rfl

theorem definePoint_noSuch (h : 48 ≤ point.toNat) :
    s.definePoint point source options debounce = refuse .noSuch s := by
  simp only [State.definePoint, pointNo?_eq_none h]

theorem definePoint_inService (hp : point.toNat = p.val) (hin : (s.point p).inService = true) :
    s.definePoint point source options debounce = refuse .inService s := by
  simp only [State.definePoint, pointNo?_eq_some hp, hin, if_true]

theorem definePoint_badValue (hp : point.toNat = p.val) (hin : (s.point p).inService = false)
    (hc : pointConfig? source options debounce = none) :
    s.definePoint point source options debounce = refuse .badValue s := by
  simp [State.definePoint, pointNo?_eq_some hp, hin, hc]

theorem definePoint_ok {c : PointConfig} (hp : point.toNat = p.val) (hin : (s.point p).inService = false)
    (hc : pointConfig? source options debounce = some c) :
    s.definePoint point source options debounce =
      accept (s.setPoint p { s.point p with toPointConfig := c }) [] := by
  simp [State.definePoint, pointNo?_eq_some hp, hin, hc]

/-! ### PLACE IN SERVICE (R10 to R13) -/

theorem exec_placeInService (point : Byte) (s : State) :
    exec (.placeInService point) s = hostCommand (.placeInService point) (State.placeInService point) s := rfl

/-- R11: the line of `p` is taken where another in-service point has it. -/
theorem lineTaken_iff : s.lineTaken p = true ↔
    ∃ (q : PointNo) (k : LineNo), (s.point p).source = .line k ∧ q ≠ p ∧ (s.point q).inService = true ∧
      (s.point q).source = .line k := by
  unfold State.lineTaken
  cases hsrc : (s.point p).source with
  | line k => simp [allPoints, and_assoc]
  | host => simp

theorem lineTaken_eq_false (h : ∀ (q : PointNo) (k : LineNo), (s.point p).source = .line k → q ≠ p →
    (s.point q).inService = true → (s.point q).source ≠ .line k) : s.lineTaken p = false := by
  rw [← Bool.not_eq_true, lineTaken_iff]
  rintro ⟨q, k, hsrc, hne, hin, hsrcq⟩
  exact h q k hsrc hne hin hsrcq

theorem placeInService_noSuch (h : 48 ≤ point.toNat) : s.placeInService point = refuse .noSuch s := by
  simp only [State.placeInService, pointNo?_eq_none h]

theorem placeInService_inService (hp : point.toNat = p.val) (hin : (s.point p).inService = true) :
    s.placeInService point = refuse .inService s := by
  simp only [State.placeInService, pointNo?_eq_some hp, hin, if_true]

theorem placeInService_lineTaken (hp : point.toNat = p.val) (hin : (s.point p).inService = false)
    (hline : s.lineTaken p = true) : s.placeInService point = refuse .lineTaken s := by
  simp [State.placeInService, pointNo?_eq_some hp, hin, hline]

theorem placeInService_ok (hp : point.toNat = p.val) (hin : (s.point p).inService = false)
    (hline : s.lineTaken p = false) : s.placeInService point = accept (s.placePoint p) [] := by
  simp [State.placeInService, pointNo?_eq_some hp, hin, hline]

theorem initialCondition_line {k : LineNo} (h : (s.point p).source = .line k) :
    s.initialCondition p = sampledCondition s.lines k (s.point p).polarity := by
  simp only [State.initialCondition, h, polarity_read_eq]

theorem initialCondition_host (h : (s.point p).source = .host) : s.initialCondition p = .normal := by
  simp only [State.initialCondition, h]

/-- A point with its record as R12 initialises it, before it arrives. -/
def State.initialised (s : State) (p : PointNo) : State :=
  s.setPoint p { s.point p with
    inService := true, line := s.initialCondition p, eff := s.initialCondition p, run := 0, chatterCount := 0,
    lockout := false }

theorem placePoint_eq (s : State) (p : PointNo) : s.placePoint p = (s.initialised p).arriveIfOffNormal p := rfl

/-- A point that has been placed is in service, whether it has arrived or not. -/
theorem placePoint_inService (s : State) (p : PointNo) : ((s.placePoint p).point p).inService = true := by
  rw [placePoint_eq, (arriveIfOffNormal_seqRecords _ p).inService_eq, State.initialised, point_setPoint_self]

/-- An out-of-service point is QUIET and silent (R3), so it arrives from QUIET (R13). -/
theorem placePoint_eq_arrived (hlaw : (s.point p).OutOfServiceLaw) (horder : s.ClassOrderLaw)
    (hin : (s.point p).inService = false) : s.placePoint p = (s.initialised p).arrived p := by
  obtain ⟨-, -, hquiet, hshelf, hflag, -⟩ := hlaw hin
  have hcls : ∀ q, ((s.initialised p).point q).cls = (s.point q).cls := by
    intro q
    unfold State.initialised
    rw [point_setPoint]
    split
    next hq => rw [hq]
    next => rfl
  have hstanding : (s.initialised p).standing = s.standing := rfl
  have horder' : (s.initialised p).ClassOrderLaw := by
    simpa only [State.ClassOrderLaw, hcls, hstanding] using horder
  have hself : (s.initialised p).point p = _ := point_setPoint_self s p _
  rw [placePoint_eq]
  exact arriveIfOffNormal_eq_arrived (by rw [hself]) (by rw [hself, hshelf]) (by rw [hself, hquiet])
    (by rw [hself, hflag]) horder'

/-- What is placed does not rest on the host link. -/
theorem placePoint_link (hlaw : (s.point p).OutOfServiceLaw) (horder : s.ClassOrderLaw)
    (hin : (s.point p).inService = false) (l : Link) :
    { s with link := l }.placePoint p = { (s.initialised p).arrived p with link := l } :=
  (placePoint_eq_arrived (s := { s with link := l }) hlaw horder hin).trans (arrived_link (s := s.initialised p) l)

/-- PLACE IN SERVICE carried out in any state: the point is in service, and the answer is OK. -/
theorem exec_placeInService_inService (hready : s.Ready) (hpoint : point.toNat = p.val)
    (hin : (s.point p).inService = false) (hline : s.lineTaken p = false) :
    ∃ t, exec (.placeInService point) s = .next t ∧ (t.point p).inService = true ∧
      t.link = s.answered (.placeInService point) .ok [] := by
  have hbody : ∀ l : Link, State.placeInService point { s with link := l } =
      accept ({ s with link := l }.placePoint p) [] := fun _ => placeInService_ok hpoint hin hline
  obtain ⟨l, hexec⟩ := hostCommand_answered_exists (c := .placeInService point) (a := ⟨.ok, []⟩) hready
    fun l => congrArg Prod.snd (hbody l)
  rw [hbody l] at hexec
  exact ⟨_, hexec, placePoint_inService { s with link := l } p, rfl⟩

/-- PLACE IN SERVICE carried out in a lawful state: the record initialised, then the arrival (R12, R13). -/
theorem exec_placeInService_arrived (hready : s.Ready) (hlaw : (s.point p).OutOfServiceLaw) (horder : s.ClassOrderLaw)
    (hpoint : point.toNat = p.val) (hin : (s.point p).inService = false) (hline : s.lineTaken p = false) :
    exec (.placeInService point) s =
      .next { (s.initialised p).arrived p with link := s.answered (.placeInService point) .ok [] } := by
  have hbody : ∀ l : Link, State.placeInService point { s with link := l } =
      ({ (s.initialised p).arrived p with link := l }, ⟨.ok, []⟩) := by
    intro l
    have hok : State.placeInService point { s with link := l } = accept ({ s with link := l }.placePoint p) [] :=
      placeInService_ok hpoint hin hline
    rw [hok, placePoint_link hlaw horder hin]
    rfl
  exact hostCommand_answered (a := ⟨.ok, []⟩) hready hbody

/-! ### The statements -/

/-- Settles O20: each clause is one outcome of `State.definePoint`, read through the link by `hostCommand_answered`. -/
theorem definePointChecksAndEffect : Obligations.DefinePointChecksAndEffect := by
  intro point source options debounce s hready
  rw [exec_definePoint]
  refine ⟨fun hpoint => ?noSuch, fun p hpoint => ⟨fun hin => ?inService, fun hin hbad => ?badValue,
    fun c hin hsrc hopt hdeb hlo hhi => ?ok⟩⟩
  case noSuch => exact hostCommand_refused hready fun _ => definePoint_noSuch hpoint
  case inService => exact hostCommand_refused hready fun _ => definePoint_inService hpoint hin
  case badValue =>
    exact hostCommand_refused hready fun _ => definePoint_badValue hpoint hin (pointConfig?_eq_none hbad)
  case ok =>
    have hc := pointConfig?_eq_some hsrc hopt hdeb hlo hhi
    exact hostCommand_answered (s' := s.setPoint p { s.point p with toPointConfig := c }) (a := ⟨.ok, []⟩) hready
      fun _ => definePoint_ok hpoint hin hc

/-- Settles O21: the checks are the outcomes of `State.placeInService`; carried out, the point arrives from QUIET. -/
theorem placeInServiceChecksAndEffect : Obligations.PlaceInServiceChecksAndEffect := by
  refine ⟨fun point s hready => ?checks, fun point p s hready hlaws hpoint hin hfree => ?effect⟩
  case checks =>
    refine ⟨fun hpoint => ?noSuch, fun p hpoint hin => ?inService,
      fun p q k hpoint hin hsrc hne hinq hsrcq => ?lineTaken, fun p hpoint hin hfree => ?ok⟩
    case noSuch => exact hostCommand_refused hready fun _ => placeInService_noSuch hpoint
    case inService => exact hostCommand_refused hready fun _ => placeInService_inService hpoint hin
    case lineTaken =>
      have hline : s.lineTaken p = true := lineTaken_iff.2 ⟨q, k, hsrc, hne, hinq, hsrcq⟩
      exact hostCommand_refused hready fun _ => placeInService_lineTaken hpoint hin hline
    case ok =>
      have hline : s.lineTaken p = false := lineTaken_eq_false fun q k hsrc hne hinq hsrcq => by
        have hhost : (s.point p).source = .host := hfree q hne hinq (hsrcq.trans hsrc.symm)
        rw [hhost] at hsrc
        cases hsrc
      exact exec_placeInService_inService hready hpoint hin hline
  case effect =>
    intro c placed
    obtain ⟨⟨houtOfService, -⟩, -, horder, -⟩ := hlaws
    have hc : s.initialCondition p = c := by
      cases hsrc : (s.point p).source with
      | line k => simp only [c, hsrc, initialCondition_line hsrc]
      | host => simp only [c, hsrc, initialCondition_host hsrc]
    have hplaced : s.initialised p = placed := by
      unfold State.initialised
      rw [hc]
      rfl
    rw [← hplaced]
    exact exec_placeInService_arrived hready (houtOfService p) horder hpoint hin (lineTaken_eq_false hfree)

end Sys2Proof.Machine
end

section
/-!
The latest raw sample: what READ LINES makes of it, and that no command but SAMPLE and HARD_RESET replaces it (R20,
R35).
-/

namespace Sys2Proof.Machine

/-! ### The data bytes of READ LINES (R35, E.8) -/

/-- Byte `j` of READ LINES holds the field lines from FI8j up. -/
theorem linesData_getD (s : State) {j : Nat} (hj : j < 4) : s.linesData.getD j 0 = s.lines.extractLsb' (8 * j) 8 := by
  match j, hj with
  | 0, _ | 1, _ | 2, _ | 3, _ => rfl

/-- Field line FIk stands in bit `k mod 8` of byte `k div 8`. -/
theorem linesData_bit (s : State) (k : LineNo) :
    (s.linesData.getD (k.val / 8) 0).getLsbD (k.val % 8) = s.lines.getLsbD k.val := by
  have hbyte : k.val / 8 < 4 := by omega
  have hbit : k.val % 8 < 8 := Nat.mod_lt _ (by decide)
  rw [linesData_getD s hbyte, BitVec.getLsbD_extractLsb', Nat.div_add_mod]
  simp [hbit]

/-- READ LINES answers the latest raw sample and leaves everything but the link as it stands. -/
theorem exec_readLines {s : State} (hready : s.Ready) :
    exec .readLines s = .next { s with link := s.answered .readLines .ok s.linesData } :=
  hostCommand_answered (s' := s) (a := ⟨.ok, s.linesData⟩) hready fun _ => rfl

/-! ### What leaves the sample: the host link -/

/-- An outcome that leads from `s` leaves the latest raw sample of `s`. -/
def State.KeepsLines (s : State) (o : Host.Outcome State Fault Refusal) : Prop :=
  ∀ t, o = .next t → t.lines = s.lines

theorem keepsLines_next {s t : State} (h : t.lines = s.lines) : s.KeepsLines (.next t) := by
  intro u hu
  cases hu
  exact h

@[simp] theorem raiseCs_lines (s : State) : s.raiseCs.lines = s.lines := by rw [raiseCs_eq]

/-- Whatever the phase of the link, the row of a host command keeps the sample where its unit does. -/
theorem keepsLines_hostCommand {s : State} {c : Instr} {body : State → State × Answer}
    (hbody : ∀ u : State, (body u).1.lines = u.lines) : s.KeepsLines (hostCommand c body s) := by
  cases hphase : s.link.phase with
  | idle =>
    rw [hostCommand_idle hphase]
    exact keepsLines_next ((raiseCs_lines _).trans (hbody s.openTransaction))
  | receiving =>
    rw [hostCommand_receiving hphase]
    exact keepsLines_next (hbody s)
  | taken =>
    rw [hostCommand_ignored (.inl hphase)]
    exact keepsLines_next rfl
  | ignored =>
    rw [hostCommand_ignored (.inr hphase)]
    exact keepsLines_next rfl

theorem shortTransaction_keepsLines (bytes : List Byte) (s : State) : s.KeepsLines (execShortTransaction bytes s) := by
  unfold execShortTransaction
  split <;> exact keepsLines_next (raiseCs_lines _)

/-! ### What leaves the sample: the units' operations -/

section
variable (s : State)

theorem foldl_lines {α : Type} {f : State → α → State} (hf : ∀ u a, (f u a).lines = u.lines) (l : List α) :
    (l.foldl f s).lines = s.lines :=
  List.foldlRecOn l f (motive := fun u => u.lines = s.lines) rfl fun u hu a _ => (hf u a).trans hu

theorem placePoint_lines (p : PointNo) : (s.placePoint p).lines = s.lines :=
  (arriveIfOffNormal_seqFrame (s.initialised p) p).lines_eq

theorem freeSlotOf_lines (p : PointNo) : (s.freeSlotOf p).lines = s.lines := by
  unfold State.freeSlotOf
  split <;> rfl

theorem removePoint_lines (p : PointNo) : (s.removePoint p).lines = s.lines := by
  unfold State.removePoint
  extract_lets freed
  have hfreed : freed.lines = s.lines := (freeSlotOf_lines _ p).trans (leaveList_seqFrame s p).lines_eq
  clear_value freed
  exact hfreed

theorem changeClass_lines (p : PointNo) (c : ClassNo) : (s.changeClass p c).lines = s.lines := by
  unfold State.changeClass
  dsimp only
  split
  next => split <;> rfl
  next => rfl

theorem changeCondition_lines (p : PointNo) (c : Condition) : (s.changeCondition p c).lines = s.lines := by
  unfold State.changeCondition
  split
  · rfl
  · exact (deliver_seqFrame _ p c).lines_eq

theorem expireSlot_lines (k : SlotNo) : (s.expireSlot k).lines = s.lines := by
  unfold State.expireSlot
  split
  next => rw [setCause_lines, (arriveIfOffNormal_seqFrame _ _).lines_eq]; rfl
  next => rfl

theorem softResetClear_lines : s.softResetClear.lines = s.lines := by
  unfold State.softResetClear
  extract_lets withPoints withGroups
  have hpoints : withPoints.lines = s.lines := foldl_lines s (fun u p => setPoint_lines u p _) allPoints
  have hgroups : withGroups.lines = withPoints.lines := foldl_lines _ (fun u g => setGroup_lines u g _) allGroups
  clear_value withGroups withPoints
  rw [refreshAttn_lines, refreshHorn_lines]
  exact hgroups.trans hpoints

theorem softResetAll_lines : s.softResetAll.lines = s.lines :=
  (reannounce_seqFrame s.softResetClear).lines_eq.trans (softResetClear_lines s)

theorem setStaging_lines (w : WindowNo) (e : WindowEntry) : (s.setStaging w e).lines = s.lines := by
  unfold State.setStaging
  split <;> rfl

/-! ### The lamp test and the frame start -/

@[simp] theorem lampTestChime_lines : s.lampTestChime.lines = s.lines := by
  unfold State.lampTestChime
  split <;> rfl

@[simp] theorem lampTestCeased_lines : s.lampTestCeased.lines = s.lines := by
  unfold State.lampTestCeased
  split <;> rfl

@[simp] theorem endButtonTest_lines : s.endButtonTest.lines = s.lines := by
  unfold State.endButtonTest
  split <;> simp

@[simp] theorem stopHostTest_lines : s.stopHostTest.lines = s.lines := by
  unfold State.stopHostTest
  split <;> simp

@[simp] theorem tickHostTest_lines : s.tickHostTest.lines = s.lines := by
  unfold State.tickHostTest
  split <;> simp

@[simp] theorem carryOutSwap_lines : s.carryOutSwap.lines = s.lines := by
  unfold State.carryOutSwap
  split <;> rfl

@[simp] theorem movePhase_lines : s.movePhase.lines = s.lines := by
  unfold State.movePhase
  split_ifs <;> rfl

theorem startFrame_lines : s.startFrame.lines = s.lines :=
  (movePhase_lines _).trans (carryOutSwap_lines s.brightnessIntoForce)

theorem advanceAhead_lines : s.advanceAhead.lines = s.lines := by
  unfold State.advanceAhead
  split <;> rfl

/-! ### The second tick and the window boundary -/

@[simp] theorem beginSecond_lines : s.beginSecond.lines = s.lines := by
  unfold State.beginSecond
  split <;> rfl

theorem countDown_lines : s.countDown.lines = s.lines := by
  unfold State.countDown
  exact foldl_lines s (fun u k => setSlot_lines u k _) allSlots

theorem expireIfDue_lines (k : SlotNo) : (s.expireIfDue k).lines = s.lines := by
  unfold State.expireIfDue
  split
  next => split; exacts [expireSlot_lines s k, rfl]
  next => rfl

theorem shelfSecond_lines : s.shelfSecond.lines = s.lines := by
  unfold State.shelfSecond
  rw [foldl_lines _ expireIfDue_lines, countDown_lines]

theorem takeSecond_lines : s.takeSecond.lines = s.lines := by
  simp only [State.takeSecond, shelfSecond_lines, beginSecond_lines]

theorem expireAhead_lines : s.expireAhead.lines = s.lines := by
  unfold State.expireAhead
  split
  · rfl
  · split
    next k _ => exact (expireSlot_lines _ k).trans (beginSecond_lines s)
    next => rfl

theorem judgePoint_seqFrame (p : PointNo) : SeqFrame s (s.judgePoint p) := by
  unfold State.judgePoint
  dsimp only
  split
  · have hlifted := (setPoint_seqFrame s p { s.point p with lockout := false }).trans (setCause_seqFrame _ .chatter)
    split
    · exact hlifted.trans (deliver_seqFrame _ p .normal)
    · exact hlifted
  · exact setPoint_seqFrame s p _

theorem judgeLine_seqFrame (k : LineNo) : SeqFrame s (s.judgeLine k) := by
  unfold State.judgeLine
  split
  next p _ => exact judgePoint_seqFrame s p
  next => exact SeqFrame.refl s

theorem closeWindow_seqFrame : SeqFrame s s.closeWindow := SeqFrame.foldl judgeLine_seqFrame allLines s

theorem takeBoundary_lines : s.takeBoundary.lines = s.lines := by
  unfold State.takeBoundary
  split
  · exact (closeWindow_seqFrame s.beginSecond).lines_eq.trans (beginSecond_lines s)
  · split
    · exact (closeWindow_seqFrame s).lines_eq
    · rfl

end

/-! ### What leaves the sample: the units' answers to the host -/

section
variable (s : State)

theorem definePoint_lines (point source options debounce : Byte) :
    (s.definePoint point source options debounce).1.lines = s.lines := by
  unfold State.definePoint
  repeat' split
  all_goals rfl

theorem placeInService_lines (point : Byte) : (s.placeInService point).1.lines = s.lines := by
  unfold State.placeInService
  split
  next => rfl
  next p _ => split_ifs; exacts [rfl, rfl, placePoint_lines s p]

theorem removeFromService_lines (point : Byte) : (s.removeFromService point).1.lines = s.lines := by
  unfold State.removeFromService
  split
  next => rfl
  next p _ => split_ifs; exacts [removePoint_lines s p, rfl]

theorem setClass_lines (point cls : Byte) : (s.setClass point cls).1.lines = s.lines := by
  unfold State.setClass
  split
  next => rfl
  next p _ =>
    split
    next => rfl
    next c _ => exact changeClass_lines s p c

theorem readPoint_lines (point : Byte) : (s.readPoint point).1.lines = s.lines := by
  unfold State.readPoint
  split <;> rfl

theorem setCondition_lines (point condition : Byte) : (s.setCondition point condition).1.lines = s.lines := by
  unfold State.setCondition
  split
  next => rfl
  next p _ =>
    split_ifs
    · split
      next => rfl
      next c _ => exact changeCondition_lines s p c
    · rfl
    · rfl

theorem scopedAction_lines (ev : SeqEvent) (scope : Byte) : (s.scopedAction ev scope).1.lines = s.lines := by
  unfold State.scopedAction
  split
  next => rfl
  next sc _ => exact (actOn_seqFrame s ev (s.scopePoints sc)).lines_eq

theorem setClassOptions_lines (cls options : Byte) : (s.setClassOptions cls options).1.lines = s.lines := by
  unfold State.setClassOptions
  split
  next => rfl
  next => split <;> rfl

theorem setGroupOptions_lines (group options : Byte) : (s.setGroupOptions group options).1.lines = s.lines := by
  unfold State.setGroupOptions
  split
  next => rfl
  next => split <;> rfl

theorem readGroup_lines (group : Byte) : (s.readGroup group).1.lines = s.lines := by
  unfold State.readGroup
  split <;> rfl

theorem setChatterLimit_lines (limit : Byte) : (s.setChatterLimit limit).1.lines = s.lines := by
  unfold State.setChatterLimit
  split <;> rfl

theorem listSeek_lines (point : Byte) : (s.listSeek point).1.lines = s.lines := by
  unfold State.listSeek
  split
  next => rfl
  next => split <;> rfl

theorem readEntry_lines : s.readEntry.1.lines = s.lines := by
  unfold State.readEntry
  split <;> rfl

theorem listReturn_lines : s.listReturn.1.lines = s.lines := by
  unfold State.listReturn
  split <;> rfl

theorem shelve_lines (point high low : Byte) : (s.shelve point high low).1.lines = s.lines := by
  unfold State.shelve
  split
  next => rfl
  next p _ =>
    split_ifs
    · rfl
    · split
      next => rfl
      next m _ =>
        split
        next => rfl
        next k _ => exact (shelveNotice_seqFrame (s.takeSlot k p (m * 60)) p).lines_eq
    · rfl

theorem unshelve_lines (point : Byte) : (s.unshelve point).1.lines = s.lines := by
  unfold State.unshelve
  split
  next => rfl
  next p _ =>
    split
    next => rfl
    next k _ => exact (arriveIfOffNormal_seqFrame (s.freeSlot k p) p).lines_eq

theorem readShelfSlot_lines (slot : Byte) : (s.readShelfSlot slot).1.lines = s.lines := by
  unfold State.readShelfSlot
  split <;> rfl

theorem writeWindow_lines (window entry : Byte) : (s.writeWindow window entry).1.lines = s.lines := by
  unfold State.writeWindow
  split
  next => rfl
  next w _ =>
    split
    next => rfl
    next e _ => split; exacts [rfl, setStaging_lines s w e]

theorem readWindow_lines (bank window : Byte) : (s.readWindow bank window).1.lines = s.lines := by
  unfold State.readWindow
  split
  next => rfl
  next => split <;> rfl

theorem swapBanks_lines : s.swapBanks.1.lines = s.lines := by
  unfold State.swapBanks
  split <;> rfl

theorem copyLive_lines : s.copyLive.1.lines = s.lines := by
  unfold State.copyLive
  split
  next => rfl
  next => split <;> rfl

theorem setBrightness_lines (brightness : Byte) : (s.setBrightness brightness).1.lines = s.lines := by
  unfold State.setBrightness
  split <;> rfl

theorem setPanel_lines (enable : Byte) : (s.setPanel enable).1.lines = s.lines := by
  unfold State.setPanel
  split <;> rfl

theorem hostLampTest_lines (value : Byte) : (s.hostLampTest value).1.lines = s.lines := by
  unfold State.hostLampTest
  split
  · rfl
  · exact lampTestChime_lines s
  · exact stopHostTest_lines s

theorem setButtonLock_lines (mask : Byte) : (s.setButtonLock mask).1.lines = s.lines := by
  unfold State.setButtonLock
  split
  next => rfl
  next m _ =>
    dsimp only [accept]
    split; exacts [endButtonTest_lines { s with lockMask := m }, rfl]

end

/-! ### Every command -/

/-- R20: the latest raw sample is replaced by a sample and a hard reset alone. Each row is its unit's operation, or a
host command whose unit's answer leaves the sample. -/
theorem exec_keepsLines (s : State) (c : Instr) (hsample : ∀ lines pins, c ≠ .sample lines pins)
    (hreset : ∀ csLow, c ≠ .hardReset csLow) : s.KeepsLines (exec c s) := by
  cases c with
  | hardReset csLow => exact absurd rfl (hreset csLow)
  | sample lines pins => exact absurd rfl (hsample lines pins)
  | tick => exact keepsLines_next (tickHostTest_lines s.beginTick.tickChime)
  | frameStart => exact keepsLines_next (startFrame_lines s)
  | secondTick => exact keepsLines_next (takeSecond_lines s)
  | windowBoundary => exact keepsLines_next (takeBoundary_lines s)
  | shelfExpiry => exact keepsLines_next (expireAhead_lines s)
  | chimeTimerExpiry => exact keepsLines_next (by split <;> rfl)
  | hostTestTimerExpiry => exact keepsLines_next (by split; exacts [tickHostTest_lines s, rfl])
  | flashPhaseAdvance => exact keepsLines_next (advanceAhead_lines s)
  | swap => exact keepsLines_next (carryOutSwap_lines s)
  | brightnessIntoForce => exact keepsLines_next rfl
  | shortTransaction bytes => exact shortTransaction_keepsLines bytes s
  | transactionBegin => exact keepsLines_next (raiseCs_lines s)
  | transactionEnd => exact keepsLines_next (raiseCs_lines s)
  | unknownCommand code => exact keepsLines_hostCommand fun _ => rfl
  | definePoint point source options debounce =>
    exact keepsLines_hostCommand (definePoint_lines · point source options debounce)
  | placeInService point => exact keepsLines_hostCommand (placeInService_lines · point)
  | removeFromService point => exact keepsLines_hostCommand (removeFromService_lines · point)
  | setClass point cls => exact keepsLines_hostCommand (setClass_lines · point cls)
  | readPoint point => exact keepsLines_hostCommand (readPoint_lines · point)
  | setCondition point condition => exact keepsLines_hostCommand (setCondition_lines · point condition)
  | readLines => exact keepsLines_hostCommand fun _ => rfl
  | acknowledge scope => exact keepsLines_hostCommand (scopedAction_lines · .ack scope)
  | silence => exact keepsLines_hostCommand fun u => (silenceAll_seqFrame u).lines_eq
  | resetPoints scope => exact keepsLines_hostCommand (scopedAction_lines · .reset scope)
  | setClassOptions cls options => exact keepsLines_hostCommand (setClassOptions_lines · cls options)
  | setGroupOptions group options => exact keepsLines_hostCommand (setGroupOptions_lines · group options)
  | readGroup group => exact keepsLines_hostCommand (readGroup_lines · group)
  | setChatterLimit limit => exact keepsLines_hostCommand (setChatterLimit_lines · limit)
  | listTop => exact keepsLines_hostCommand fun _ => rfl
  | listSeek point => exact keepsLines_hostCommand (listSeek_lines · point)
  | readEntry => exact keepsLines_hostCommand readEntry_lines
  | listMark => exact keepsLines_hostCommand fun _ => rfl
  | listReturn => exact keepsLines_hostCommand listReturn_lines
  | readListSummary => exact keepsLines_hostCommand fun _ => rfl
  | shelve point minutesHigh minutesLow => exact keepsLines_hostCommand (shelve_lines · point minutesHigh minutesLow)
  | unshelve point => exact keepsLines_hostCommand (unshelve_lines · point)
  | readShelfSlot slot => exact keepsLines_hostCommand (readShelfSlot_lines · slot)
  | writeWindow window entry => exact keepsLines_hostCommand (writeWindow_lines · window entry)
  | readWindow bank window => exact keepsLines_hostCommand (readWindow_lines · bank window)
  | swapBanks => exact keepsLines_hostCommand swapBanks_lines
  | copyLiveToStaging => exact keepsLines_hostCommand copyLive_lines
  | setBrightness brightness => exact keepsLines_hostCommand (setBrightness_lines · brightness)
  | setPanel enable => exact keepsLines_hostCommand (setPanel_lines · enable)
  | lampTest value => exact keepsLines_hostCommand (hostLampTest_lines · value)
  | readPanel => exact keepsLines_hostCommand fun _ => rfl
  | readCauses => exact keepsLines_hostCommand fun _ => rfl
  | clearCauses mask => exact keepsLines_hostCommand fun _ => rfl
  | setCauseEnables enables => exact keepsLines_hostCommand fun _ => rfl
  | setButtonLock mask => exact keepsLines_hostCommand (setButtonLock_lines · mask)
  | readButtons => exact keepsLines_hostCommand fun _ => rfl
  | readUptime => exact keepsLines_hostCommand fun _ => rfl
  | softReset => exact keepsLines_hostCommand softResetAll_lines

/-- Settles O49: the four bytes hold the sample bit by bit, and every other command keeps it by `exec_keepsLines`. -/
theorem readLinesReturnsTheLatestSample : Obligations.ReadLinesReturnsTheLatestSample := by
  refine ⟨fun s hready => ⟨s.linesData, exec_readLines hready, rfl, linesData_bit s⟩, ?_⟩
  intro c s t hexec hsample hreset
  exact exec_keepsLines s c hsample hreset t hexec

end Sys2Proof.Machine
end

section
/-!
A notice of the effective condition as the sequence engine takes it (R23, R42 to R45), and the commands that act on the
sequences without a scope: SET CONDITION (R52, R53) and SILENCE (R46, R48).
-/

namespace Sys2Proof.Machine

/-! ### The rows that a notice meets (R42, R43, R44) -/

section

variable {r : PointRec}

/-- In every state but the two off-normal ones the LATCHING table has an off-normal row, which brings ALARM-NEW
(R42). -/
theorem latchingTable_offNormal {st : AnnState} (hnew : st ≠ .alarmNew) (hacked : st ≠ .alarmAcked) :
    ∃ tr, latchingTable st .offNormal = some tr ∧ tr.dest = .alarmNew := by
  cases st with
  | quiet | clearedNew | ringback => exact ⟨_, rfl, rfl⟩
  | alarmNew => exact absurd rfl hnew
  | alarmAcked => exact absurd rfl hacked

/-- The two rows by which the SELF-CLEARING table differs are no off-normal rows (R43). -/
theorem selfClearingTable_offNormal (st : AnnState) :
    selfClearingTable st .offNormal = latchingTable st .offNormal := by
  cases st <;> rfl

/-- An off-normal notice meets a row at a point that is in neither off-normal state. -/
theorem seqTable_offNormal (hlaw : r.StateLaw) (hstate : ¬ (r.state = .alarmNew ∨ r.state = .alarmAcked)) :
    ∃ tr, seqTable r.seqType r.state .offNormal = some tr ∧ tr.dest = r.seqType.offNormalState := by
  obtain ⟨hstatus, -⟩ := hlaw
  obtain ⟨hnew, hacked⟩ := not_or.1 hstate
  cases htype : r.seqType with
  | latching => exact latchingTable_offNormal hnew hacked
  | selfClearing =>
    obtain ⟨tr, hrow, hdest⟩ := latchingTable_offNormal hnew hacked
    exact ⟨tr, (selfClearingTable_offNormal r.state).trans hrow, hdest⟩
  | status =>
    have hquiet : r.state = .quiet := (hstatus htype).resolve_right hacked
    rw [hquiet]
    exact seqTable_quiet_offNormal .status

/-- A normal notice meets a row at a point that is in an off-normal state. -/
theorem seqTable_normal (hlaw : r.StateLaw) (hstate : r.state = .alarmNew ∨ r.state = .alarmAcked) :
    ∃ tr, seqTable r.seqType r.state .normal = some tr ∧ tr.dest = r.normalState := by
  obtain ⟨hstatus, -⟩ := hlaw
  unfold PointRec.normalState
  rcases hstate with hnew | hacked
  · rw [hnew]
    cases htype : r.seqType with
    | latching | selfClearing => exact ⟨_, rfl, rfl⟩
    | status =>
      have hst := hstatus htype
      simp [hnew] at hst
  · rw [hacked]
    cases r.seqType with
    | latching | selfClearing | status => exact ⟨_, rfl, rfl⟩

end

/-! ### A notice delivered (R23, R45) -/

section

variable {s : State} {p : PointNo} {c : Condition}

/-- A record written with its class kept leaves the list in class order (R83). -/
theorem classOrder_setPoint {r : PointRec} (hcls : r.cls = (s.point p).cls) (h : s.ClassOrderLaw) :
    (s.setPoint p r).ClassOrderLaw := by
  have heq : ∀ q, ((s.setPoint p r).point q).cls = (s.point q).cls := by
    intro q
    by_cases hq : q = p
    · rw [hq, point_setPoint_self, hcls]
    · rw [point_setPoint_ne s r hq]
  simpa only [State.ClassOrderLaw, heq, setPoint_standing] using h

/-- An event leaves a shelved point's sequence as it is (R45). -/
theorem seqEvent_of_shelved (hshelf : (s.point p).shelf ≠ none) (ev : SeqEvent) : s.seqEvent p ev = s := by
  have hnone : s.transition? p ev = none := by simp [State.transition?, hshelf]
  unfold State.seqEvent
  rw [hnone]

/-- The effective condition of `p` at `c`, before the sequence engine has its notice. -/
def State.withEff (s : State) (p : PointNo) (c : Condition) : State := s.setPoint p { s.point p with eff := c }

theorem point_withEff (s : State) (p : PointNo) (c : Condition) :
    (s.withEff p c).point p = { s.point p with eff := c } := point_setPoint_self s p _

theorem deliver_offNormal (s : State) (p : PointNo) :
    s.deliver p .offNormal = (s.withEff p .offNormal).seqEvent p .offNormal := rfl

theorem deliver_normal (s : State) (p : PointNo) :
    s.deliver p .normal = (s.withEff p .normal).seqEvent p .normal := rfl

theorem delivered_of_shelved (hshelf : (s.point p).shelf ≠ none) : s.delivered p c = s.withEff p c := if_pos hshelf

theorem delivered_offNormal (hshelf : (s.point p).shelf = none) :
    s.delivered p .offNormal = (s.withEff p .offNormal).changedTo p (s.point p).seqType.offNormalState :=
  if_neg (not_not_intro hshelf)

theorem delivered_normal (hshelf : (s.point p).shelf = none) :
    s.delivered p .normal = (s.withEff p .normal).changedTo p (s.point p).normalState :=
  if_neg (not_not_intro hshelf)

/-- A shelved point takes the condition alone (R45). -/
theorem deliver_of_shelved (hshelf : (s.point p).shelf ≠ none) : s.deliver p c = s.withEff p c := by
  have hshelf' : ((s.withEff p c).point p).shelf ≠ none := by rwa [point_withEff]
  cases c with
  | offNormal | normal => exact seqEvent_of_shelved hshelf' _

/-- A notice that meets a row brings what R41 says of the row's state. -/
theorem withEff_seqEvent {ev : SeqEvent} {tr : Transition} (hin : (s.point p).inService = true)
    (hshelf : (s.point p).shelf = none) (hrow : seqTable (s.point p).seqType (s.point p).state ev = some tr)
    (hsound : (s.point p).SoundingLaw) (horder : s.ClassOrderLaw)
    (hlisted : (s.point p).state ≠ .quiet → p ∈ s.standing) :
    (s.withEff p c).seqEvent p ev = (s.withEff p c).changedTo p tr.dest := by
  refine seqEvent_eq_changedTo ?_ ?_ ?_ ?_ (classOrder_setPoint rfl horder) ?_ <;> rw [point_withEff]
  · exact hin
  · exact hshelf
  · exact hrow
  · exact hsound
  · exact hlisted

/-- A change of the effective condition of a point whose state is in step with it (R37) leaves what `State.delivered`
says. -/
theorem deliver_eq_delivered (hin : (s.point p).inService = true) (heff : (s.point p).eff ≠ c)
    (hstate : (s.point p).StateLaw) (hsound : (s.point p).SoundingLaw) (horder : s.ClassOrderLaw)
    (hlisted : (s.point p).shelf = none → (s.point p).state ≠ .quiet → p ∈ s.standing) :
    s.deliver p c = s.delivered p c := by
  by_cases hshelf : (s.point p).shelf = none
  · have ⟨_, _, hinStep, _⟩ := hstate
    have hstep := hinStep hin hshelf
    cases c with
    | offNormal =>
      obtain ⟨tr, hrow, hdest⟩ := seqTable_offNormal hstate fun h => heff (hstep.2 h)
      rw [deliver_offNormal, delivered_offNormal hshelf, ← hdest]
      exact withEff_seqEvent hin hshelf hrow hsound horder (hlisted hshelf)
    | normal =>
      have hoff : (s.point p).eff = .offNormal := by
        cases h : (s.point p).eff with
        | normal => exact absurd h heff
        | offNormal => rfl
      obtain ⟨tr, hrow, hdest⟩ := seqTable_normal hstate (hstep.1 hoff)
      rw [deliver_normal, delivered_normal hshelf, ← hdest]
      exact withEff_seqEvent hin hshelf hrow hsound horder (hlisted hshelf)
  · rw [deliver_of_shelved hshelf, delivered_of_shelved hshelf]

/-- A delivery neither reads nor moves the host link. -/
theorem delivered_link (l : Link) : { s with link := l }.delivered p c = { s.delivered p c with link := l } := by
  by_cases hshelf : (s.point p).shelf = none
  · cases c with
    | offNormal =>
      rw [delivered_offNormal hshelf]
      exact delivered_offNormal (s := { s with link := l }) hshelf
    | normal =>
      rw [delivered_normal hshelf]
      exact delivered_normal (s := { s with link := l }) hshelf
  · rw [delivered_of_shelved hshelf]
    exact delivered_of_shelved (s := { s with link := l }) hshelf

end

/-! ### SET CONDITION (R52, R53) -/

section

variable {point condition : Byte} {p : PointNo} {c : Condition} {s : State}

theorem condition?_eq_none {b : Byte} (h : 2 ≤ b.toNat) : condition? b = none := by
  have h0 : b ≠ 0x00#8 := by rintro rfl; simp at h
  have h1 : b ≠ 0x01#8 := by rintro rfl; simp at h
  simp only [condition?, h0, h1, if_false]

theorem condition?_eq_some {b : Byte} (h : b.toNat < 2) :
    condition? b = some (if b.toNat = 0 then .normal else .offNormal) := by
  obtain h0 | h1 : b.toNat = 0 ∨ b.toNat = 1 := by omega
  · have hb : b = 0x00#8 := BitVec.eq_of_toNat_eq h0
    subst hb
    rfl
  · have hb : b = 0x01#8 := BitVec.eq_of_toNat_eq h1
    subst hb
    rfl

theorem exec_setCondition (point condition : Byte) (s : State) :
    exec (.setCondition point condition) s =
      hostCommand (.setCondition point condition) (State.setCondition point condition) s := rfl

theorem setCondition_noSuch (h : 48 ≤ point.toNat) : s.setCondition point condition = refuse .noSuch s := by
  simp only [State.setCondition, pointNo?_eq_none h]

theorem setCondition_outOfService (hp : point.toNat = p.val) (hin : (s.point p).inService = false) :
    s.setCondition point condition = refuse .outOfService s := by
  simp [State.setCondition, pointNo?_eq_some hp, hin]

theorem setCondition_notHostPoint (hp : point.toNat = p.val) (hin : (s.point p).inService = true)
    (hsrc : (s.point p).source ≠ .host) : s.setCondition point condition = refuse .notHostPoint s := by
  simp [State.setCondition, pointNo?_eq_some hp, hin, hsrc]

theorem setCondition_badValue (hp : point.toNat = p.val) (hin : (s.point p).inService = true)
    (hsrc : (s.point p).source = .host) (hc : condition? condition = none) :
    s.setCondition point condition = refuse .badValue s := by
  simp [State.setCondition, pointNo?_eq_some hp, hin, hsrc, hc]

theorem setCondition_ok (hp : point.toNat = p.val) (hin : (s.point p).inService = true)
    (hsrc : (s.point p).source = .host) (hc : condition? condition = some c) :
    s.setCondition point condition = accept (s.changeCondition p c) [] := by
  simp [State.setCondition, pointNo?_eq_some hp, hin, hsrc, hc]

theorem SeqRecords.line_eq {s t : State} (h : SeqRecords s t) (q : PointNo) : (t.point q).line = (s.point q).line :=
  h.field_eq (fun r => r.line) (fun _ => rfl) q

/-- The line condition after the change is the one set, whatever the sequence makes of the notice. -/
theorem changeCondition_line (s : State) (p : PointNo) (c : Condition) :
    ((s.changeCondition p c).point p).line = c := by
  unfold State.changeCondition
  split
  next hsame => exact hsame
  next =>
    unfold State.deliver
    rw [(seqEvent_seqRecords _ p _).line_eq, point_setPoint_self, point_setPoint_self]

theorem changeCondition_same (h : (s.point p).line = c) : s.changeCondition p c = s := if_pos h

/-- The effective condition of a HOST point is its line condition (R21), so a new value is a change of both (R53). -/
theorem changeCondition_eq_delivered (hlaws : s.AnnunciationLaws) (hin : (s.point p).inService = true)
    (hsrc : (s.point p).source = .host) (hne : (s.point p).line ≠ c) :
    s.changeCondition p c = (s.setPoint p { s.point p with line := c }).delivered p c := by
  obtain ⟨⟨-, hcondition, hstate, hsound, -⟩, ⟨hlisted, -⟩, horder, -⟩ := hlaws
  obtain ⟨-, hopen, hhost⟩ := hcondition p
  obtain ⟨-, hlockout, -⟩ := hhost hsrc
  have heff : (s.point p).eff ≠ c := by rwa [hopen hlockout]
  have hself : (s.setPoint p { s.point p with line := c }).point p = { s.point p with line := c } :=
    point_setPoint_self s p _
  rw [State.changeCondition, if_neg hne]
  refine deliver_eq_delivered ?_ ?_ ?_ ?_ (classOrder_setPoint rfl horder) ?_ <;> rw [hself]
  · exact hin
  · exact heff
  · exact hstate p
  · exact hsound p
  · exact fun hshelf hquiet => (hlisted p).2 ⟨hin, hshelf, hquiet⟩

/-- SET CONDITION carried out in any state: the line condition is the one sent, and the answer is OK. -/
theorem exec_setCondition_line (hready : s.Ready) (hp : point.toNat = p.val) (hin : (s.point p).inService = true)
    (hsrc : (s.point p).source = .host) (hc : condition? condition = some c) :
    ∃ t, exec (.setCondition point condition) s = .next t ∧ (t.point p).line = c ∧
      t.link = s.answered (.setCondition point condition) .ok [] := by
  have hbody : ∀ l : Link, State.setCondition point condition { s with link := l } =
      accept ({ s with link := l }.changeCondition p c) [] := fun _ => setCondition_ok hp hin hsrc hc
  obtain ⟨l, hexec⟩ := hostCommand_answered_exists (c := .setCondition point condition) (a := ⟨.ok, []⟩) hready
    fun l => congrArg Prod.snd (hbody l)
  rw [hbody l] at hexec
  exact ⟨_, hexec, changeCondition_line { s with link := l } p c, rfl⟩

/-- SET CONDITION carried out, where what the change leaves is known and does not rest on the host link. -/
theorem exec_setCondition_changed {s' : State} (hready : s.Ready) (hp : point.toNat = p.val)
    (hin : (s.point p).inService = true) (hsrc : (s.point p).source = .host) (hc : condition? condition = some c)
    (hchange : ∀ l : Link, { s with link := l }.changeCondition p c = { s' with link := l }) :
    exec (.setCondition point condition) s =
      .next { s' with link := s.answered (.setCondition point condition) .ok [] } := by
  have hbody : ∀ l : Link, State.setCondition point condition { s with link := l } =
      ({ s' with link := l }, ⟨.ok, []⟩) := by
    intro l
    rw [← hchange l]
    exact setCondition_ok hp hin hsrc hc
  exact hostCommand_answered (a := ⟨.ok, []⟩) hready hbody

end

/-! ### SILENCE (R46, R48) -/

/-- A fold that rewrites the records of distinct points, each from its own record, rewrites those
points and no other. -/
theorem point_foldl_setPoint (f : PointRec → PointRec) {ps : List PointNo} (hps : ps.Nodup) (s : State) (q : PointNo) :
    (ps.foldl (fun s p => s.setPoint p (f (s.point p))) s).point q = if q ∈ ps then f (s.point q) else s.point q := by
  induction ps generalizing s with
  | nil => rfl
  | cons p ps ih =>
    obtain ⟨hp, hps⟩ := List.nodup_cons.1 hps
    rw [List.foldl_cons, ih hps, point_setPoint]
    by_cases hq : q = p
    · subst hq
      simp [hp]
    · simp [hq]

/-- Such a fold writes the point records and nothing else. -/
theorem foldl_setPoint_frame (f : PointRec → PointRec) (ps : List PointNo) (s : State) :
    ps.foldl (fun s p => s.setPoint p (f (s.point p))) s =
      { s with points := (ps.foldl (fun s p => s.setPoint p (f (s.point p))) s).points } := by
  induction ps generalizing s with
  | nil => rfl
  | cons p ps ih => exact ih (s.setPoint p (f (s.point p)))

/-- The fold over all points rewrites every record. -/
theorem foldl_setPoint_allPoints (f : PointRec → PointRec) (s : State) :
    allPoints.foldl (fun s p => s.setPoint p (f (s.point p))) s = { s with points := s.points.map f } := by
  have hpoints : (allPoints.foldl (fun s p => s.setPoint p (f (s.point p))) s).points = s.points.map f := by
    apply Vector.ext
    intro i hi
    have hpoint := point_foldl_setPoint f (List.nodup_finRange 48) s ⟨i, hi⟩
    rw [if_pos (List.mem_finRange _)] at hpoint
    rw [Vector.getElem_map]
    exact hpoint
  rw [foldl_setPoint_frame, hpoints]

/-- With every flag clear HORN is inactive (R125). -/
theorem hornLevel_of_silent {s : State} (h : ∀ p, (s.point p).sounding = false) : s.hornLevel = false := by
  simp [State.hornLevel, h]

/-- SILENCE leaves every flag clear and HORN inactive, and nothing else changed (R46). -/
theorem silenceAll_eq_silenced (s : State) : s.silenceAll = s.silenced := by
  have hsilent : ∀ p, (s.silenced.point p).sounding = false := fun p => by simp [State.silenced, State.point]
  unfold State.silenceAll
  rw [foldl_setPoint_allPoints fun r => { r with sounding := false }]
  calc _ = { s.silenced with horn := s.silenced.hornLevel } := rfl
    _ = s.silenced := by rw [hornLevel_of_silent hsilent]; rfl

/-! ### The statements -/

/-- Settles O25: the checks are the outcomes of `State.setCondition`; carried out, the change is `State.delivered`. -/
theorem setConditionChecksAndEffect : Obligations.SetConditionChecksAndEffect := by
  refine ⟨fun point condition s hready => ?checks, fun point p c s hready hlaws hpoint hin hsrc => ?effect⟩
  case checks =>
    rw [exec_setCondition]
    refine ⟨fun hpoint => ?noSuch, fun p hpoint => ⟨fun hin => ?outOfService, fun hin hsrc => ?notHostPoint,
      fun hin hsrc hcond => ?badValue, fun hin hsrc hcond => ?ok⟩⟩
    case noSuch => exact hostCommand_refused hready fun _ => setCondition_noSuch hpoint
    case outOfService => exact hostCommand_refused hready fun _ => setCondition_outOfService hpoint hin
    case notHostPoint => exact hostCommand_refused hready fun _ => setCondition_notHostPoint hpoint hin hsrc
    case badValue =>
      exact hostCommand_refused hready fun _ => setCondition_badValue hpoint hin hsrc (condition?_eq_none hcond)
    case ok => exact exec_setCondition_line hready hpoint hin hsrc (condition?_eq_some hcond)
  case effect =>
    have hc : condition? (match c with | .normal => 0x00#8 | .offNormal => 0x01#8) = some c := by cases c <;> rfl
    refine ⟨fun hsame => ?same, fun hne => ?changed⟩
    case same =>
      exact exec_setCondition_changed (s' := s) hready hpoint hin hsrc hc
        fun l => changeCondition_same (s := { s with link := l }) hsame
    case changed =>
      exact exec_setCondition_changed (s' := (s.setPoint p { s.point p with line := c }).delivered p c)
        hready hpoint hin hsrc hc fun l =>
          (changeCondition_eq_delivered (s := { s with link := l }) hlaws hin hsrc hne).trans
            (delivered_link (s := s.setPoint p _) l)

/-- Settles O28: SILENCE is `State.silenced`, and the flags it clears are those that are set. -/
theorem silenceClearsTheFlags : Obligations.SilenceClearsTheFlags := by
  intro s hready
  have hbody : ∀ l : Link, State.hostSilence { s with link := l } =
      ({ s.silenced with link := l }, ⟨.ok, [byte s.soundingCount]⟩) := by
    intro l
    rw [State.hostSilence, silenceAll_eq_silenced]
    rfl
  exact hostCommand_answered (c := .silence) hready hbody

end Sys2Proof.Machine
end

section
/-!
The command SET GROUP OPTIONS: its operand bytes, the outcome of each check, the moves of the first-out state, and the
statement about it (R75).
-/

namespace Sys2Proof.Machine

/-! ### The operand bytes (E.8) -/

theorem groupNo?_eq_none {b : Byte} (h : 8 ≤ b.toNat) : groupNo? b = none :=
  dif_neg (Nat.not_lt.2 h)

theorem groupNo?_eq_some {b : Byte} {g : GroupNo} (h : b.toNat = g.val) : groupNo? b = some g := by
  simp only [groupNo?, h, g.isLt, dite_true, Fin.eta]

/-- Bits 7-1 of the options byte are unused: one of them set makes the byte no valid setting. -/
theorem groupOption?_eq_none {b : Byte} (h : 2 ≤ b.toNat) : groupOption? b = none :=
  if_neg (Nat.not_lt.2 h)

theorem groupOption?_off {b : Byte} (h : b.toNat = 0) : groupOption? b = some false := by
  have hb : b = 0x00#8 := BitVec.eq_of_toNat_eq h
  subst hb
  rfl

theorem groupOption?_on {b : Byte} (h : b.toNat = 1) : groupOption? b = some true := by
  have hb : b = 0x01#8 := BitVec.eq_of_toNat_eq h
  subst hb
  rfl

/-! ### The table of R75 -/

theorem optionTable_off (quiet : Bool) (f : FirstOut) : optionTable false quiet f = .off := rfl

/-- Turning the option on judges the group: ARMED when quiet, and SPENT otherwise, never HELD. -/
theorem optionTable_on_of_off (quiet : Bool) : optionTable true quiet .off = if quiet then .armed else .spent := rfl

/-- Where the option has been on already, turning it on leaves the first-out state. -/
theorem optionTable_on_of_ne_off (quiet : Bool) {f : FirstOut} (h : f ≠ .off) : optionTable true quiet f = f := by
  cases f with
  | off => exact absurd rfl h
  | armed | held _ | spent => rfl

/-! ### The outcome of each check -/

section

variable {group options : Byte} {g : GroupNo} {s : State}

theorem exec_setGroupOptions (group options : Byte) (s : State) :
    exec (.setGroupOptions group options) s =
      hostCommand (.setGroupOptions group options) (State.setGroupOptions group options) s := rfl

theorem setGroupOptions_noSuch (h : 8 ≤ group.toNat) : s.setGroupOptions group options = refuse .noSuch s := by
  simp only [State.setGroupOptions, groupNo?_eq_none h]

theorem setGroupOptions_badValue (hg : group.toNat = g.val) (ho : groupOption? options = none) :
    s.setGroupOptions group options = refuse .badValue s := by
  simp only [State.setGroupOptions, groupNo?_eq_some hg, ho]

theorem setGroupOptions_ok {on : Bool} (hg : group.toNat = g.val) (ho : groupOption? options = some on) :
    s.setGroupOptions group options =
      accept (s.setGroup g ⟨on, optionTable on (s.quietWith g s.standing) (s.groupRec g).firstOut⟩) [] := by
  simp only [State.setGroupOptions, groupNo?_eq_some hg, ho, groupQuiet_eq_quietWith]

/-- A good SET GROUP OPTIONS replaces the record of its group: the option as carried, and the first-out state `f` to which
the table moves it, with quiet judged over the standing list as it stands (R69, R75). -/
theorem exec_setGroupOptions_moves {on : Bool} {f : FirstOut} (hready : s.Ready) (hg : group.toNat = g.val)
    (ho : groupOption? options = some on)
    (hf : optionTable on (s.quietWith g s.standing) (s.groupRec g).firstOut = f) :
    exec (.setGroupOptions group options) s =
      .next { s with
        groups := s.groups.set g ⟨on, f⟩
        link := s.answered (.setGroupOptions group options) .ok [] } := by
  subst hf
  exact hostCommand_answered (s' := s.setGroup g _) (a := ⟨.ok, []⟩) hready fun _ => setGroupOptions_ok hg ho

end

/-! ### The statement -/

/-- Settles O31: the checks are the outcomes of `State.setGroupOptions`, and each row of R75's table is a case of
`optionTable`. -/
theorem setGroupOptionsMovesFirstOut : Obligations.SetGroupOptionsMovesFirstOut := by
  intro group options s hready
  refine ⟨fun hgroup => ?noSuch, fun hgroup hoption => ?badValue, fun g hgroup =>
    ⟨fun hoption => ?off, fun hoption hfirst => ?turnedOn, fun hoption hfirst => ?stillOn⟩⟩
  case noSuch => exact hostCommand_refused hready fun _ => setGroupOptions_noSuch hgroup
  case badValue =>
    exact hostCommand_refused hready fun _ =>
      setGroupOptions_badValue (g := ⟨group.toNat, hgroup⟩) rfl (groupOption?_eq_none hoption)
  case off => exact exec_setGroupOptions_moves hready hgroup (groupOption?_off hoption) (optionTable_off _ _)
  case turnedOn =>
    refine exec_setGroupOptions_moves hready hgroup (groupOption?_on hoption) ?_
    rw [hfirst, optionTable_on_of_off]
  case stillOn =>
    exact exec_setGroupOptions_moves hready hgroup (groupOption?_on hoption) (optionTable_on_of_ne_off _ hfirst)

end Sys2Proof.Machine
end

section
/-!
The command READ LIST SUMMARY: the range of the list's counts, what they say of the whole device, and the statement about
it (R100).
-/

namespace Sys2Proof.Machine

/-! ### Numbers in data bytes (E.8) -/

theorem toNat_byte {n : Nat} (h : n < 256) : (byte n).toNat = n :=
  Nat.mod_eq_of_lt h

theorem numberOf_bytes2 {n : Nat} (h : n < 65536) : numberOf (bytes2 n) = n := by
  have hhigh : n / 256 < 256 := by omega
  simp only [numberOf, bytes2, List.foldl_cons, List.foldl_nil, toNat_byte hhigh]
  simp only [byte, BitVec.toNat_ofNat]
  omega

/-! ### The counts of the list -/

/-- Four counts by a number below 4 leave no element out and count none twice. -/
theorem countP_fin4_add {α : Type} (f : α → Fin 4) (l : List α) :
    l.countP (fun a => f a == 0) + l.countP (fun a => f a == 1) + l.countP (fun a => f a == 2) +
      l.countP (fun a => f a == 3) = l.length := by
  induction l with
  | nil => rfl
  | cons a l ih =>
    simp only [List.countP_cons, List.length_cons]
    match f a with
    | 0 | 1 | 2 | 3 => simp; omega

section

variable {s : State}

/-- The entries are the points that are not QUIET: one out of service or on the shelf is QUIET (R3, R81, R107). -/
theorem mem_standing_iff_not_quiet (hlaws : s.AnnunciationLaws) (p : PointNo) :
    p ∈ s.standing ↔ (s.point p).state ≠ .quiet := by
  obtain ⟨⟨hout, -, hstate, -, -⟩, ⟨hlisted, -⟩, -⟩ := hlaws
  obtain ⟨-, -, -, hshelved⟩ := hstate p
  rw [hlisted p]
  refine ⟨fun ⟨_, _, hq⟩ => hq, fun hq => ⟨?inService, ?unshelved, hq⟩⟩
  case inService =>
    by_contra hin
    obtain ⟨-, -, hquiet, -⟩ := hout p (Bool.eq_false_iff.2 hin)
    exact hq hquiet
  case unshelved =>
    by_contra hshelf
    obtain ⟨hquiet, -⟩ := hshelved hshelf
    exact hq hquiet

/-- A list that holds no point twice has at most 48 entries (R82). -/
theorem standing_length_le (hnodup : s.standing.Nodup) : s.standing.length ≤ 48 := by
  simpa using hnodup.length_le_card

/-- A count of entries fits the byte that carries it. -/
theorem toNat_byte_countEntries (hnodup : s.standing.Nodup) (f : PointRec → Bool) :
    (byte (s.countEntries f)).toNat = s.countEntries f := by
  have hcount : s.countEntries f ≤ s.standing.length := List.countP_le_length
  have hlength := standing_length_le hnodup
  exact toNat_byte (by omega)

/-- The entries in a state other than QUIET are all the points in it. -/
theorem countEntries_state (hlaws : s.AnnunciationLaws) {st : AnnState} (hst : st ≠ .quiet) :
    (s.countEntries fun r => r.state == st) = (List.finRange 48).countP fun p => decide ((s.point p).state = st) := by
  have hmem := mem_standing_iff_not_quiet hlaws
  obtain ⟨-, ⟨-, hnodup⟩, -⟩ := hlaws
  have hperm : (s.standing.filter fun p => decide ((s.point p).state = st)).Perm
      ((List.finRange 48).filter fun p => decide ((s.point p).state = st)) := by
    refine (List.perm_ext_iff_of_nodup (hnodup.filter _) ((List.nodup_finRange 48).filter _)).2 fun p => ?_
    simp only [List.mem_filter, List.mem_finRange, true_and, hmem p, decide_eq_true_eq]
    exact and_iff_right_of_imp fun h => h ▸ hst
  calc _ = (s.standing.filter fun p => decide ((s.point p).state = st)).length := List.countP_eq_length_filter
    _ = ((List.finRange 48).filter fun p => decide ((s.point p).state = st)).length := hperm.length_eq
    _ = _ := List.countP_eq_length_filter.symm

theorem exec_readListSummary (hready : s.Ready) :
    exec .readListSummary s = .next { s with link := s.answered .readListSummary .ok s.summaryData } :=
  hostCommand_answered (s' := s) (a := ⟨.ok, s.summaryData⟩) hready fun _ => rfl

/-- Byte `3 + c` of the summary holds the count of class `c`. -/
theorem summaryData_class (s : State) (c : ClassNo) :
    s.summaryData.getD (3 + c.val) 0 = byte (s.countEntries fun r => r.cls == c) := by
  match c with
  | 0 | 1 | 2 | 3 => rfl

end

/-! ### The statement -/

/-- Settles O37: each byte holds its count, since none exceeds the length; the class counts add up by `countP_fin4_add`, and
the counts of states are the device's because an unlisted point is QUIET. -/
theorem readListSummaryCountsTheList : Obligations.ReadListSummaryCountsTheList := by
  intro s hready hlaws
  have hnodup : s.standing.Nodup := by
    obtain ⟨-, ⟨-, hnodup⟩, -⟩ := hlaws
    exact hnodup
  have hlength : s.standing.length ≤ 48 := standing_length_le hnodup
  have hclass (c : ClassNo) : (s.summaryData.getD (3 + c.val) 0).toNat = s.countEntries fun r => r.cls == c := by
    rw [summaryData_class, toNat_byte_countEntries hnodup]
  refine ⟨s.summaryData, exec_readListSummary hready, rfl, toNat_byte (by omega), hlength,
    numberOf_bytes2 s.lgen.isLt, hclass, ?sum, ?alarmNew, ?clearedNew⟩
  case sum =>
    have h0 : (s.summaryData.getD 3 0).toNat = _ := hclass 0
    have h1 : (s.summaryData.getD 4 0).toNat = _ := hclass 1
    have h2 : (s.summaryData.getD 5 0).toNat = _ := hclass 2
    have h3 : (s.summaryData.getD 6 0).toNat = _ := hclass 3
    rw [h0, h1, h2, h3]
    exact countP_fin4_add (fun p => (s.point p).cls) s.standing
  case alarmNew => exact (toNat_byte_countEntries hnodup _).trans (countEntries_state hlaws (by decide))
  case clearedNew => exact (toNat_byte_countEntries hnodup _).trans (countEntries_state hlaws (by decide))

end Sys2Proof.Machine
end

section
/-!
The shelf unit's commands (R103 to R115): the operand bytes, the outcome of each check, what a withdrawal from the list
leaves in closed form, and the statements about SHELVE, UNSHELVE and READ SHELF SLOT.
-/

namespace Sys2Proof.Machine

/-! ### The operand and data bytes (E.8) -/

theorem slotNo?_eq_none {b : Byte} (h : 8 ≤ b.toNat) : slotNo? b = none :=
  dif_neg (Nat.not_lt.2 h)

theorem slotNo?_eq_some {b : Byte} {k : SlotNo} (h : b.toNat = k.val) : slotNo? b = some k := by
  simp only [slotNo?, h, k.isLt, dite_true, Fin.eta]

theorem minutes?_eq_none {high low : Byte}
    (h : high.toNat * 256 + low.toNat = 0 ∨ 1440 < high.toNat * 256 + low.toNat) : minutes? high low = none :=
  if_neg (by omega)

theorem minutes?_eq_some {high low : Byte} (hlo : 1 ≤ high.toNat * 256 + low.toNat)
    (hhi : high.toNat * 256 + low.toNat ≤ 1440) : minutes? high low = some (high.toNat * 256 + low.toNat) :=
  if_pos ⟨hlo, hhi⟩

theorem numberOf_bytes3 {n : Nat} (h : n < 16777216) : numberOf (bytes3 n) = n := by
  have hhigh : n / 65536 < 256 := by omega
  simp only [numberOf, bytes3, List.foldl_cons, List.foldl_nil, toNat_byte hhigh]
  simp only [byte, BitVec.toNat_ofNat]
  omega

/-! ### The lowest free slot (R103) -/

section

variable {s : State} {k : SlotNo}

theorem lowestFree_eq_none (h : ∀ k, s.slot k ≠ none) : s.lowestFree = none :=
  List.find?_eq_none.2 fun k _ => by simpa using h k

theorem lowestFree_eq_some (hfree : s.slot k = none) (hlower : ∀ j, j < k → s.slot j ≠ none) :
    s.lowestFree = some k := by
  refine List.find?_eq_some_iff_getElem.2 ⟨by simp [hfree], k.val, by simp [allSlots], by simp [allSlots], ?_⟩
  intro j hj
  have hused : s.slot ⟨j, hj.trans k.isLt⟩ ≠ none := hlower _ hj
  simpa [allSlots, Option.isSome_iff_ne_none] using hused

/-- Some slot is taken wherever one is free. -/
theorem exists_lowestFree (hfree : s.slot k = none) : ∃ j, s.lowestFree = some j := by
  refine Option.isSome_iff_exists.1 (List.find?_isSome.2 ⟨k, List.mem_finRange k, ?_⟩)
  simp [hfree]

end

/-! ### A withdrawal from the list (R64) -/

section

variable {s : State} {p : PointNo}

/-- What a withdrawal finds of a point without an entry (R4, R96): no entry time, and neither cursor nor mark on it. -/
structure State.EntryAbsent (s : State) (p : PointNo) : Prop where
  entryTime : (s.point p).entryTime = none
  cursor : s.cursor ≠ some p
  mark : s.mark ≠ .entry p

theorem entryAbsent_of_unlisted (hlaws : s.AnnunciationLaws) (h : p ∉ s.standing) : s.EntryAbsent p := by
  obtain ⟨-, -, -, ⟨hcursor, hmark⟩, htimes, -⟩ := hlaws
  obtain ⟨hentry, -⟩ := htimes p
  exact ⟨by simpa using mt hentry.1 h, fun e => h (hcursor p e), fun e => h (hmark p e)⟩

/-- A list without an entry of `p` is the same without it. -/
theorem withoutEntry_of_not_mem {l : List PointNo} (h : p ∉ l) : withoutEntry p l = l :=
  List.filter_eq_self.2 fun _ hq => decide_eq_true fun e => h (e ▸ hq)

/-- The list, the cursor, the mark and the entry time once the entry of `p` is gone, whether there was one or not. -/
theorem leaveList_eq_of_absent (habsent : p ∉ s.standing → s.EntryAbsent p) : s.leaveList p =
    { s with
      points := s.points.set p { s.point p with entryTime := none }
      standing := withoutEntry p s.standing
      cursor := if s.cursor = some p then entryAfter p s.standing else s.cursor
      mark := if s.mark = Mark.entry p then .lost else s.mark
      lgen := if p ∈ s.standing then s.lgen + 1#16 else s.lgen }.withCauses
        (if p ∈ s.standing then 0x20#8 else 0#8) := by
  by_cases hlisted : p ∈ s.standing
  · rw [leaveList_eq s hlisted, if_pos hlisted, if_pos hlisted]
  · obtain ⟨hentry, hcursor, hmark⟩ := habsent hlisted
    have hpoint : { s.point p with entryTime := none } = s.point p := by rw [← hentry]
    have hpoints : s.points.set p (s.point p) = s.points := by simp [State.point]
    have hunlisted : s.leaveList p = s := by
      unfold State.leaveList
      rw [if_neg (mt (mem_standing_iff_isListed s p).2 hlisted)]
    rw [hunlisted, hpoint, hpoints, withoutEntry_of_not_mem hlisted]
    simp [hlisted, hcursor, hmark, State.withCauses]

/-- A point whose own record and slot are written already leaves the list, then its group has the notice, then HORN is
re-evaluated: this is `State.withdrawnWith` (R64). -/
theorem leaveList_notice_eq_withdrawnWith (habsent : p ∉ s.standing → s.EntryAbsent p) :
    ((s.leaveList p).groupNotice .withdrawn p).refreshHorn =
      s.withdrawnWith p (s.points.set p { s.point p with entryTime := none }) s.slots := by
  have hrec : SeqRecords s (s.leaveList p) := leaveList_seqRecords s p
  rw [groupNotice_eq, noticeTable_withdrawn, hrec.group_eq, hrec.quietWith_eq, leaveList_eq_of_absent habsent]
  simp only [State.withdrawnWith, decide_eq_true_eq]
  rfl

end

/-! ### SHELVE (R105, R106) -/

section

variable {point high low : Byte} {p : PointNo} {k : SlotNo} {s : State} {seconds : Nat}

theorem shelve_noSuch (h : 48 ≤ point.toNat) : s.shelve point high low = refuse .noSuch s := by
  simp only [State.shelve, pointNo?_eq_none h]

theorem shelve_outOfService (hp : point.toNat = p.val) (hin : (s.point p).inService = false) :
    s.shelve point high low = refuse .outOfService s := by
  simp [State.shelve, pointNo?_eq_some hp, hin]

theorem shelve_alreadyShelved (hp : point.toNat = p.val) (hin : (s.point p).inService = true)
    (hshelf : (s.point p).shelf ≠ none) : s.shelve point high low = refuse .alreadyShelved s := by
  have hsome : (s.point p).shelf.isSome = true := Option.isSome_iff_ne_none.2 hshelf
  simp [State.shelve, pointNo?_eq_some hp, hin, hsome]

theorem shelve_badValue (hp : point.toNat = p.val) (hin : (s.point p).inService = true)
    (hshelf : (s.point p).shelf = none) (hm : minutes? high low = none) :
    s.shelve point high low = refuse .badValue s := by
  simp [State.shelve, pointNo?_eq_some hp, hin, hshelf, hm]

theorem shelve_shelfFull {m : Nat} (hp : point.toNat = p.val) (hin : (s.point p).inService = true)
    (hshelf : (s.point p).shelf = none) (hm : minutes? high low = some m) (hfull : s.lowestFree = none) :
    s.shelve point high low = refuse .shelfFull s := by
  simp [State.shelve, pointNo?_eq_some hp, hin, hshelf, hm, hfull]

theorem shelve_ok {m : Nat} (hp : point.toNat = p.val) (hin : (s.point p).inService = true)
    (hshelf : (s.point p).shelf = none) (hm : minutes? high low = some m) (hfree : s.lowestFree = some k) :
    s.shelve point high low = accept ((s.takeSlot k p (m * 60)).shelveNotice p) [] := by
  simp [State.shelve, pointNo?_eq_some hp, hin, hshelf, hm, hfree]

theorem SeqRecords.shelf_eq {s t : State} (h : SeqRecords s t) (q : PointNo) : (t.point q).shelf = (s.point q).shelf :=
  h.field_eq (fun r => r.shelf) (fun _ => rfl) q

/-- The record of a point on slot `k`, QUIET and silent, before its entry goes (R64). -/
def PointRec.shelvedOn (r : PointRec) (k : SlotNo) (now : Nat) : PointRec :=
  { r with
    shelf := some k, state := .quiet, sounding := false,
    lastChange := if r.state = .quiet then r.lastChange else some now }

/-- The point's own record and its slot written, before the list, the group and HORN have their notice (R103, R64). -/
def State.onShelf (s : State) (p : PointNo) (k : SlotNo) (seconds : Nat) : State :=
  (s.setSlot k (some ⟨p, seconds⟩)).setPoint p ((s.point p).shelvedOn k s.uptime)

theorem point_onShelf (s : State) (p : PointNo) (k : SlotNo) (seconds : Nat) :
    (s.onShelf p k seconds).point p = (s.point p).shelvedOn k s.uptime := point_setPoint_self _ p _

/-- SHELVE's two acts as one write of record and slot and then the notices. -/
theorem takeSlot_shelveNotice_eq (s : State) (p : PointNo) (k : SlotNo) (seconds : Nat) :
    (s.takeSlot k p seconds).shelveNotice p =
      (((s.onShelf p k seconds).leaveList p).groupNotice .withdrawn p).refreshHorn := by
  have hrecord : (s.takeSlot k p seconds).point p = { s.point p with shelf := some k } := point_setPoint_self _ p _
  unfold State.shelveNotice
  rw [hrecord]
  simp only [State.takeSlot, State.onShelf, PointRec.shelvedOn, State.setPoint, Vector.set_set]
  rfl

/-- A point whose slot has been taken stays on it through the shelve notice. -/
theorem takeSlot_shelveNotice_shelf (s : State) (p : PointNo) (k : SlotNo) (seconds : Nat) :
    (((s.takeSlot k p seconds).shelveNotice p).point p).shelf = some k := by
  rw [takeSlot_shelveNotice_eq, point_refreshHorn, (groupNotice_seqRecords _ p _).shelf_eq,
    (leaveList_seqRecords _ p).shelf_eq, point_onShelf]
  rfl

/-- Shelving changes no group and no sequence type, so quiet is judged alike before and after (R69). -/
theorem onShelf_quietWith (g : GroupNo) (l : List PointNo) :
    (s.onShelf p k seconds).quietWith g l = s.quietWith g l := by
  have hrecord (q : PointNo) : ((s.onShelf p k seconds).point q).group = (s.point q).group ∧
      ((s.onShelf p k seconds).point q).seqType = (s.point q).seqType := by
    rw [State.onShelf, point_setPoint]
    split
    next hq => exact ⟨by rw [hq]; rfl, by rw [hq]; rfl⟩
    next => exact ⟨rfl, rfl⟩
  simp only [State.quietWith, hrecord]

/-- The slot taken and the point forced QUIET, in a lawful state (R64, R106). -/
theorem takeSlot_shelveNotice_eq_shelved (hlaws : s.AnnunciationLaws) :
    (s.takeSlot k p seconds).shelveNotice p = s.shelved p k seconds := by
  have habsent (h : p ∉ (s.onShelf p k seconds).standing) : (s.onShelf p k seconds).EntryAbsent p := by
    obtain ⟨hentry, hcursor, hmark⟩ := entryAbsent_of_unlisted hlaws h
    exact ⟨by rw [point_onShelf]; exact hentry, hcursor, hmark⟩
  rw [takeSlot_shelveNotice_eq, leaveList_notice_eq_withdrawnWith habsent]
  simp only [State.shelved, State.withdrawnWith, onShelf_quietWith, point_onShelf]
  simp only [State.onShelf, State.setPoint, Vector.set_set]
  rfl

/-- SHELVE carried out in any state: the point is on the shelf, and the answer is OK. -/
theorem exec_shelve_shelf {m : Nat} (hready : s.Ready) (hp : point.toNat = p.val) (hin : (s.point p).inService = true)
    (hshelf : (s.point p).shelf = none) (hm : minutes? high low = some m) (hfree : s.lowestFree = some k) :
    ∃ t, exec (.shelve point high low) s = .next t ∧ (t.point p).shelf ≠ none ∧
      t.link = s.answered (.shelve point high low) .ok [] := by
  have hbody : ∀ l : Link, State.shelve point high low { s with link := l } =
      accept (({ s with link := l }.takeSlot k p (m * 60)).shelveNotice p) [] :=
    fun _ => shelve_ok hp hin hshelf hm hfree
  obtain ⟨l, hexec⟩ := hostCommand_answered_exists (c := .shelve point high low) (a := ⟨.ok, []⟩) hready
    fun l => congrArg Prod.snd (hbody l)
  rw [hbody l] at hexec
  refine ⟨_, hexec, ?_, rfl⟩
  exact Option.ne_none_iff_exists'.2 ⟨k, takeSlot_shelveNotice_shelf { s with link := l } p k (m * 60)⟩

/-- SHELVE carried out in a lawful state. -/
theorem exec_shelve_shelved {m : Nat} (hready : s.Ready) (hlaws : s.AnnunciationLaws) (hp : point.toNat = p.val)
    (hin : (s.point p).inService = true) (hshelf : (s.point p).shelf = none) (hm : minutes? high low = some m)
    (hfree : s.lowestFree = some k) :
    exec (.shelve point high low) s =
      .next { s.shelved p k (m * 60) with link := s.answered (.shelve point high low) .ok [] } := by
  have hbody : ∀ l : Link, State.shelve point high low { s with link := l } =
      ({ s.shelved p k (m * 60) with link := l }, ⟨.ok, []⟩) := by
    intro l
    have hok : State.shelve point high low { s with link := l } =
        accept (({ s with link := l }.takeSlot k p (m * 60)).shelveNotice p) [] := shelve_ok hp hin hshelf hm hfree
    rw [hok, takeSlot_shelveNotice_eq_shelved (s := { s with link := l }) hlaws]
    rfl
  exact hostCommand_answered (a := ⟨.ok, []⟩) hready hbody

end

/-! ### UNSHELVE (R65, R111) -/

section

variable {point : Byte} {p : PointNo} {k : SlotNo} {s : State}

theorem unshelve_noSuch (h : 48 ≤ point.toNat) : s.unshelve point = refuse .noSuch s := by
  simp only [State.unshelve, pointNo?_eq_none h]

theorem unshelve_notShelved (hp : point.toNat = p.val) (hshelf : (s.point p).shelf = none) :
    s.unshelve point = refuse .notShelved s := by
  simp only [State.unshelve, pointNo?_eq_some hp, hshelf]

theorem unshelve_ok (hp : point.toNat = p.val) (hshelf : (s.point p).shelf = some k) :
    s.unshelve point = accept ((s.freeSlot k p).arriveIfOffNormal p) [] := by
  simp only [State.unshelve, pointNo?_eq_some hp, hshelf]

/-- A shelved point is in service (R3), QUIET and silent (R107), so off its slot it arrives from QUIET (R65). -/
theorem freeSlot_arriveIfOffNormal_eq_unshelved (hlaws : s.AnnunciationLaws) (hshelf : (s.point p).shelf = some k) :
    (s.freeSlot k p).arriveIfOffNormal p = s.unshelved p k := by
  obtain ⟨⟨hout, -, hstate, -⟩, -, horder, -⟩ := hlaws
  have hne : (s.point p).shelf ≠ none := by simp [hshelf]
  have hin : (s.point p).inService = true := by
    by_contra h
    obtain ⟨-, -, -, hnone, -⟩ := hout p (Bool.eq_false_iff.2 h)
    exact hne hnone
  obtain ⟨-, -, -, hshelved⟩ := hstate p
  obtain ⟨hquiet, hflag⟩ := hshelved hne
  have hrecord : (s.freeSlot k p).point p = { s.point p with shelf := none } := point_setPoint_self _ p _
  have horder' : (s.freeSlot k p).ClassOrderLaw := classOrder_setPoint (s := s.setSlot k none) rfl horder
  exact arriveIfOffNormal_eq_arrived (by rw [hrecord]; exact hin) (by rw [hrecord]) (by rw [hrecord]; exact hquiet)
    (by rw [hrecord]; exact hflag) horder'

/-- UNSHELVE carried out in a lawful state. -/
theorem exec_unshelve_unshelved (hready : s.Ready) (hlaws : s.AnnunciationLaws) (hp : point.toNat = p.val)
    (hshelf : (s.point p).shelf = some k) :
    exec (.unshelve point) s =
      .next { s.unshelved p k with link := s.answered (.unshelve point) .ok [] } := by
  have hbody : ∀ l : Link, State.unshelve point { s with link := l } =
      ({ s.unshelved p k with link := l }, ⟨.ok, []⟩) := by
    intro l
    have hok : State.unshelve point { s with link := l } =
        accept (({ s with link := l }.freeSlot k p).arriveIfOffNormal p) [] := unshelve_ok hp hshelf
    rw [hok, freeSlot_arriveIfOffNormal_eq_unshelved (s := { s with link := l }) hlaws hshelf]
    exact congrArg (accept · []) (arrived_link (s := s.freeSlot k p) l)
  exact hostCommand_answered (a := ⟨.ok, []⟩) hready hbody

end

/-! ### READ SHELF SLOT (R115) -/

section

variable {slot : Byte} {k : SlotNo} {s : State}

theorem readShelfSlot_noSuch (h : 8 ≤ slot.toNat) : s.readShelfSlot slot = refuse .noSuch s := by
  simp only [State.readShelfSlot, slotNo?_eq_none h]

theorem readShelfSlot_ok (hk : slot.toNat = k.val) : s.readShelfSlot slot = accept s (s.slotData k) := by
  simp only [State.readShelfSlot, slotNo?_eq_some hk]

theorem slotData_free (h : s.slot k = none) : s.slotData k = [0x00#8, 0xFF#8, 0#8, 0#8, 0#8] := by
  simp only [State.slotData, h]
  rfl

theorem slotData_used {r : SlotRec} (h : s.slot k = some r) :
    s.slotData k = 0x01#8 :: byte r.point.val :: bytes3 r.remaining := by
  simp only [State.slotData, h]
  rfl

/-- READ SHELF SLOT answers the slot as it stands and leaves everything but the link. -/
theorem exec_readShelfSlot_ok (hready : s.Ready) (hk : slot.toNat = k.val) :
    exec (.readShelfSlot slot) s = .next { s with link := s.answered (.readShelfSlot slot) .ok (s.slotData k) } :=
  hostCommand_answered (s' := s) (a := ⟨.ok, s.slotData k⟩) hready fun _ => readShelfSlot_ok hk

end

/-! ### The statements -/

/-- Settles O38: the checks are the outcomes of `State.shelve`; carried out, the slot taken and the shelve notice come to
`State.shelved`. -/
theorem shelveChecksAndEffect : Obligations.ShelveChecksAndEffect := by
  refine ⟨fun point high low s hready => ?checks,
    fun point high low p k s hready hlaws hpoint hin hshelf hlo hhi hfree hlower => ?effect⟩
  case checks =>
    refine ⟨fun hpoint => ?noSuch, fun p hpoint => ⟨fun hin => ?outOfService, fun hin hshelf => ?alreadyShelved,
      fun hin hshelf hbad => ?badValue, fun hin hshelf hlo hhi hused => ?shelfFull,
      fun hin hshelf hlo hhi ⟨k, hfree⟩ => ?ok⟩⟩
    case noSuch => exact hostCommand_refused hready fun _ => shelve_noSuch hpoint
    case outOfService => exact hostCommand_refused hready fun _ => shelve_outOfService hpoint hin
    case alreadyShelved => exact hostCommand_refused hready fun _ => shelve_alreadyShelved hpoint hin hshelf
    case badValue =>
      exact hostCommand_refused hready fun _ => shelve_badValue hpoint hin hshelf (minutes?_eq_none hbad)
    case shelfFull =>
      exact hostCommand_refused hready fun _ =>
        shelve_shelfFull hpoint hin hshelf (minutes?_eq_some hlo hhi) (lowestFree_eq_none hused)
    case ok =>
      obtain ⟨j, hlowest⟩ := exists_lowestFree hfree
      exact exec_shelve_shelf hready hpoint hin hshelf (minutes?_eq_some hlo hhi) hlowest
  case effect =>
    exact exec_shelve_shelved hready hlaws hpoint hin hshelf (minutes?_eq_some hlo hhi)
      (lowestFree_eq_some hfree hlower)

/-- Settles O39: UNSHELVE's checks are the outcomes of `State.unshelve`, and the freed point arrives from QUIET; READ SHELF
SLOT's five bytes are those of the slot, whose seconds fit three bytes by R103. -/
theorem unshelveAndReadShelfSlot : Obligations.UnshelveAndReadShelfSlot := by
  refine ⟨fun point s hready => ⟨fun hpoint => ?noSuchPoint, fun p hpoint hshelf => ?notShelved,
      fun p k hpoint hlaws hshelf => ?unshelved⟩,
    fun slot s hready => ⟨fun hslot => ?noSuchSlot, fun k hslot hfree => ?free, fun k r hslot hlaw hused => ?used⟩⟩
  case noSuchPoint => exact hostCommand_refused hready fun _ => unshelve_noSuch hpoint
  case notShelved => exact hostCommand_refused hready fun _ => unshelve_notShelved hpoint hshelf
  case unshelved => exact exec_unshelve_unshelved hready hlaws hpoint hshelf
  case noSuchSlot => exact hostCommand_refused hready fun _ => readShelfSlot_noSuch hslot
  case free => rw [exec_readShelfSlot_ok hready hslot, slotData_free hfree]
  case used =>
    obtain ⟨hslots, -⟩ := hlaw
    obtain ⟨-, -, hremaining⟩ := hslots k r hused
    have hpoint : r.point.val < 256 := by omega
    refine ⟨_, exec_readShelfSlot_ok hready hslot, ?_⟩
    rw [slotData_used hused]
    exact ⟨rfl, rfl, toNat_byte hpoint, numberOf_bytes3 (by omega)⟩

end Sys2Proof.Machine
end

section
/-!
The operator unit's commands SET BUTTON LOCK and READ BUTTONS: the operand and data bytes, what a new lock mask leaves, and
the statement about them (R121, R123).
-/

namespace Sys2Proof.Machine

/-! ### The lock byte (E.8) -/

/-- Bits 7-4 of the lock byte are unused: one of them set makes the byte no valid mask. -/
theorem lockMask?_eq_none {b : Byte} (h : 16 ≤ b.toNat) : lockMask? b = none :=
  if_neg (Nat.not_lt.2 h)

theorem lockMask?_eq_some {b : Byte} (h : b.toNat < 16) : lockMask? b = some (BitVec.ofNat 4 b.toNat) :=
  if_pos h

/-- A mask's bit for a button is the same bit of the lock byte. -/
theorem getLsbD_lockBits (b : Byte) {i : Nat} (hi : i < 4) : (BitVec.ofNat 4 b.toNat).getLsbD i = b.getLsbD i := by
  simp [hi]

/-! ### SET BUTTON LOCK (R121) -/

/-- A new mask is in force, and where it locks TSTn the button test has ended. -/
def State.relocked (s : State) (mask : Byte) : State :=
  if mask.getLsbD 3 then { s with lockMask := BitVec.ofNat 4 mask.toNat }.testReleased
  else { s with lockMask := BitVec.ofNat 4 mask.toNat }

section

variable {mask : Byte} {s : State}

/-- The end of a button test does not read or touch the link. -/
theorem testReleased_link (l : Link) : { s with link := l }.testReleased = { s.testReleased with link := l } := by
  unfold State.testReleased
  dsimp only
  split <;> rfl

theorem relocked_link (l : Link) : { s with link := l }.relocked mask = { s.relocked mask with link := l } := by
  unfold State.relocked
  split
  next => exact testReleased_link (s := { s with lockMask := _ }) l
  next => rfl

theorem setButtonLock_badValue (h : 16 ≤ mask.toNat) : s.setButtonLock mask = refuse .badValue s := by
  simp only [State.setButtonLock, lockMask?_eq_none h]

/-- Whether TSTn is locked is judged by the new mask, and its locking ends the test as a release does. -/
theorem setButtonLock_ok (h : mask.toNat < 16) : s.setButtonLock mask = accept (s.relocked mask) [] := by
  have htst : { s with lockMask := BitVec.ofNat 4 mask.toNat }.locked .tst = mask.getLsbD 3 :=
    getLsbD_lockBits mask (by decide)
  simp only [State.setButtonLock, lockMask?_eq_some h, htst, endButtonTest_eq, State.relocked]

theorem exec_setButtonLock (mask : Byte) (s : State) :
    exec (.setButtonLock mask) s = hostCommand (.setButtonLock mask) (State.setButtonLock mask) s := rfl

/-- A good SET BUTTON LOCK leaves the state relocked and answers OK. -/
theorem exec_setButtonLock_relocked (hready : s.Ready) (h : mask.toNat < 16) :
    exec (.setButtonLock mask) s =
      .next { s.relocked mask with link := s.answered (.setButtonLock mask) .ok [] } := by
  have hbody : ∀ l : Link, State.setButtonLock mask { s with link := l } =
      ({ s.relocked mask with link := l }, ⟨.ok, []⟩) := by
    intro l
    rw [setButtonLock_ok h, relocked_link]
    rfl
  exact hostCommand_answered hready hbody

end

/-! ### READ BUTTONS (R123, E.8) -/

/-- Bits 3-0 of a byte whose other bits are unused, in ascending order. -/
theorem getLsbD_lowBits (b₃ b₂ b₁ b₀ : Bool) (i : Fin 4) :
    (bits8 false false false false b₃ b₂ b₁ b₀).getLsbD i.val = ![b₀, b₁, b₂, b₃] i := by
  revert b₃ b₂ b₁ b₀ i
  decide

theorem toNat_lowBits_lt (b₃ b₂ b₁ b₀ : Bool) : (bits8 false false false false b₃ b₂ b₁ b₀).toNat < 16 := by
  revert b₃ b₂ b₁ b₀
  decide

section

variable (s : State)

/-- Byte 0 holds the accepted levels, ACKn in bit 0 to TSTn in bit 3. -/
theorem buttonsData_level (i : Fin 4) : (s.buttonsData.getD 0 0).getLsbD i.val = s.buttons[i].pressed := by
  refine (getLsbD_lowBits _ _ _ _ i).trans ?_
  match i with
  | 0 | 1 | 2 | 3 => rfl

theorem buttonsData_level_lt : (s.buttonsData.getD 0 0).toNat < 16 :=
  toNat_lowBits_lt _ _ _ _

theorem buttonsData_mask : (s.buttonsData.getD 1 0).toNat = s.lockMask.toNat :=
  BitVec.toNat_setWidth_of_le (b := s.lockMask) (by decide)

/-- Bytes 2 to 5 hold the press counts in the order of the buttons. -/
theorem buttonsData_presses (i : Fin 4) : s.buttonsData.getD (2 + i.val) 0 = s.buttons[i].presses := by
  match i with
  | 0 | 1 | 2 | 3 => rfl

end

/-- READ BUTTONS answers the buttons as they stand and leaves everything but the link. -/
theorem exec_readButtons {s : State} (hready : s.Ready) :
    exec .readButtons s = .next { s with link := s.answered .readButtons .ok s.buttonsData } :=
  hostCommand_answered (s' := s) (a := ⟨.ok, s.buttonsData⟩) hready fun _ => rfl

/-! ### The statement -/

/-- Settles O53: a mask with unused bits is refused; a good one leaves `State.relocked`, in which the locking of TSTn ends
the button test; READ BUTTONS answers the six bytes of `State.buttonsData`. -/
theorem buttonLockAndReadButtons : Obligations.ButtonLockAndReadButtons := by
  intro mask s hready
  refine ⟨fun hmask => ?badValue, fun hmask => ?relocked, s.buttonsData, exec_readButtons hready, rfl,
    buttonsData_level s, buttonsData_level_lt s, buttonsData_mask s, buttonsData_presses s⟩
  case badValue =>
    rw [exec_setButtonLock]
    exact hostCommand_refused hready fun _ => setButtonLock_badValue hmask
  case relocked => exact exec_setButtonLock_relocked hready hmask

end Sys2Proof.Machine
end

section
/-!
The panel drive's window and panel commands: the operand and data bytes of a window entry, the staging bank, the bytes of
READ PANEL, and the statements about WRITE WINDOW, READ WINDOW, COPY LIVE TO STAGING and READ PANEL (R131 to R134, R149).
-/

namespace Sys2Proof.Machine

/-! ### The operand and data bytes (E.5, E.8) -/

theorem windowNo?_eq_none {b : Byte} (h : 48 ≤ b.toNat) : windowNo? b = none :=
  dif_neg (Nat.not_lt.2 h)

theorem windowNo?_eq_some {b : Byte} {w : WindowNo} (h : b.toNat = w.val) : windowNo? b = some w := by
  simp only [windowNo?, h, w.isLt, dite_true, Fin.eta]

theorem bank?_eq_none {b : Byte} (h : 2 ≤ b.toNat) : bank? b = none := by
  have ha : b ≠ 0x00#8 := by bv_omega
  have hb : b ≠ 0x01#8 := by bv_omega
  simp only [bank?, ha, hb, if_false]

theorem bank?_a {b : Byte} (h : b.toNat = 0) : bank? b = some .a :=
  if_pos (BitVec.eq_of_toNat_eq h)

theorem bank?_b {b : Byte} (h : b.toNat = 1) : bank? b = some .b := by
  obtain rfl : b = 0x01#8 := BitVec.eq_of_toNat_eq h
  rfl

/-- The byte of an entry is read as that entry: its kind stands in bits 7-6, its number in bits 5-0. -/
theorem windowEntry?_eq_some {b : Byte} {e : WindowEntry} (h : b.toNat = e.byteValue) : windowEntry? b = some e := by
  have hkind := toNat_field b 6 2
  have hnumber := toNat_field b 0 6
  rw [h] at hkind hnumber
  cases e with
  | unbound =>
    simp only [WindowEntry.byteValue] at hkind hnumber
    simp [windowEntry?, hkind, hnumber]
  | point p =>
    have hk : (64 + p.val) / 2 ^ 6 % 2 ^ 2 = 1 := by omega
    have hn : (64 + p.val) / 2 ^ 0 % 2 ^ 6 = p.val := by omega
    simp only [WindowEntry.byteValue, hk, hn] at hkind hnumber
    simp [windowEntry?, hkind, hnumber]
  | group g =>
    have hk : (128 + g.val) / 2 ^ 6 % 2 ^ 2 = 2 := by omega
    have hn : (128 + g.val) / 2 ^ 0 % 2 ^ 6 = g.val := by omega
    simp only [WindowEntry.byteValue, hk, hn] at hkind hnumber
    simp [windowEntry?, hkind, hnumber]

/-- A byte is read as an entry only where it is that entry's byte. -/
theorem byteValue_of_windowEntry? {b : Byte} {e : WindowEntry} (h : windowEntry? b = some e) :
    b.toNat = e.byteValue := by
  have hkind := toNat_field b 6 2
  have hnumber := toNat_field b 0 6
  unfold windowEntry? at h
  dsimp only at h
  split at h
  case h_4 => cases h
  all_goals
    split at h
    next =>
      cases h
      simp only [WindowEntry.byteValue]
      omega
    next => cases h

theorem windowEntry?_eq_none {b : Byte} (h : ∀ e : WindowEntry, b.toNat ≠ e.byteValue) : windowEntry? b = none :=
  Option.eq_none_iff_forall_ne_some.2 fun e he => h e (byteValue_of_windowEntry? he)

/-- A kind in bits 7-6 over a number in bits 5-0. -/
theorem kind_append_number (kind : BitVec 2) {n : Nat} (hn : n < 64) :
    kind ++ BitVec.ofNat 6 n = BitVec.ofNat 8 (64 * kind.toNat + n) := by
  apply BitVec.eq_of_toNat_eq
  have hk := kind.isLt
  have hn' : n % 2 ^ 6 = n := Nat.mod_eq_of_lt hn
  rw [BitVec.toNat_append, BitVec.toNat_ofNat, BitVec.toNat_ofNat, hn', ← Nat.shiftLeft_add_eq_or_of_lt hn,
    Nat.shiftLeft_eq]
  omega

/-- A data byte carries the same value for an entry as a parameter byte. -/
theorem byte_eq_ofNat_byteValue (e : WindowEntry) : e.byte = BitVec.ofNat 8 e.byteValue := by
  cases e with
  | unbound => rfl
  | point p => exact kind_append_number 1#2 (by omega)
  | group g => exact kind_append_number 2#2 (by omega)

/-! ### WRITE WINDOW (R132) -/

section

variable {window entry : Byte} {w : WindowNo} {e : WindowEntry} {s : State}

/-- While bank A is live, bank B is the staging bank (R131). -/
theorem setStaging_of_live_a (h : s.live = .a) : s.setStaging w e = { s with bankB := s.bankB.set w e } := by
  simp only [State.setStaging, h]

/-- While bank B is live, bank A is the staging bank (R131). -/
theorem setStaging_of_live_b (h : s.live = .b) : s.setStaging w e = { s with bankA := s.bankA.set w e } := by
  simp only [State.setStaging, h]

theorem setStaging_link (l : Link) :
    { s with link := l }.setStaging w e = { s.setStaging w e with link := l } := by
  unfold State.setStaging
  dsimp only
  split <;> rfl

theorem writeWindow_noSuch (h : 48 ≤ window.toNat) : s.writeWindow window entry = refuse .noSuch s := by
  simp only [State.writeWindow, windowNo?_eq_none h]

theorem writeWindow_badValue (hw : window.toNat = w.val) (he : ∀ e : WindowEntry, entry.toNat ≠ e.byteValue) :
    s.writeWindow window entry = refuse .badValue s := by
  simp only [State.writeWindow, windowNo?_eq_some hw, windowEntry?_eq_none he]

theorem writeWindow_busy (hw : window.toNat = w.val) (he : entry.toNat = e.byteValue) (hs : s.swapPending = true) :
    s.writeWindow window entry = refuse .busy s := by
  simp only [State.writeWindow, windowNo?_eq_some hw, windowEntry?_eq_some he, hs, if_true]

theorem writeWindow_ok (hw : window.toNat = w.val) (he : entry.toNat = e.byteValue) (hs : s.swapPending = false) :
    s.writeWindow window entry = accept (s.setStaging w e) [] := by
  simp [State.writeWindow, windowNo?_eq_some hw, windowEntry?_eq_some he, hs]

/-- A good WRITE WINDOW replaces one entry of the staging bank and answers OK. -/
theorem exec_writeWindow_setStaging (hready : s.Ready) (hw : window.toNat = w.val) (he : entry.toNat = e.byteValue)
    (hs : s.swapPending = false) :
    exec (.writeWindow window entry) s =
      .next { s.setStaging w e with link := s.answered (.writeWindow window entry) .ok [] } := by
  have hbody : ∀ l : Link, State.writeWindow window entry { s with link := l } =
      ({ s.setStaging w e with link := l }, ⟨.ok, []⟩) := by
    intro l
    rw [writeWindow_ok (s := { s with link := l }) hw he hs, setStaging_link]
    rfl
  exact hostCommand_answered hready hbody

end

/-! ### READ WINDOW (R133) -/

section

variable {bank window : Byte} {w : WindowNo} {s : State}

theorem readWindow_noSuch (h : 48 ≤ window.toNat) : s.readWindow bank window = refuse .noSuch s := by
  simp only [State.readWindow, windowNo?_eq_none h]

theorem readWindow_badValue (hw : window.toNat = w.val) (hb : 2 ≤ bank.toNat) :
    s.readWindow bank window = refuse .badValue s := by
  simp only [State.readWindow, windowNo?_eq_some hw, bank?_eq_none hb]

theorem readWindow_a (hw : window.toNat = w.val) (hb : bank.toNat = 0) :
    s.readWindow bank window = accept s [BitVec.ofNat 8 s.bankA[w].byteValue] := by
  simp only [State.readWindow, windowNo?_eq_some hw, bank?_a hb, byte_eq_ofNat_byteValue]

theorem readWindow_b (hw : window.toNat = w.val) (hb : bank.toNat = 1) :
    s.readWindow bank window = accept s [BitVec.ofNat 8 s.bankB[w].byteValue] := by
  simp only [State.readWindow, windowNo?_eq_some hw, bank?_b hb, byte_eq_ofNat_byteValue]

end

/-! ### COPY LIVE TO STAGING (R134) -/

section

variable {s : State}

theorem copyLive_busy (hs : s.swapPending = true) : s.copyLive = refuse .busy s :=
  if_pos hs

theorem copyLive_of_live_a (hs : s.swapPending = false) (h : s.live = .a) :
    s.copyLive = accept { s with bankB := s.bankA } [] := by
  simp [State.copyLive, hs, h]

theorem copyLive_of_live_b (hs : s.swapPending = false) (h : s.live = .b) :
    s.copyLive = accept { s with bankA := s.bankB } [] := by
  simp [State.copyLive, hs, h]

end

/-! ### READ PANEL (R149, E.8) -/

/-- Bits 4-0 of a byte whose other bits are unused, in ascending order. -/
theorem getLsbD_bits5 (b₄ b₃ b₂ b₁ b₀ : Bool) (i : Fin 5) :
    (bits8 false false false b₄ b₃ b₂ b₁ b₀).getLsbD i.val = ![b₀, b₁, b₂, b₃, b₄] i := by
  revert b₄ b₃ b₂ b₁ b₀ i
  decide

/-- Bits 7-5 are unused, so the byte is below 32. -/
theorem toNat_bits5_lt (b₄ b₃ b₂ b₁ b₀ : Bool) : (bits8 false false false b₄ b₃ b₂ b₁ b₀).toNat < 32 := by
  revert b₄ b₃ b₂ b₁ b₀
  decide

section

variable (s : State)

/-- The bits of byte 0, the flags of the panel. -/
theorem panelData_flag (i : Fin 5) : (s.panelData.getD 0 0).getLsbD i.val =
    ![s.live == .b, s.swapPending, s.panelEnabled, s.buttonTest, decide (0 < s.hostTimer)] i :=
  getLsbD_bits5 _ _ _ _ _ i

theorem panelData_flags_lt : (s.panelData.getD 0 0).toNat < 32 :=
  toNat_bits5_lt _ _ _ _ _

theorem panelData_live : (s.panelData.getD 0 0).getLsbD 0 = true ↔ s.live = .b := by
  rw [show (s.panelData.getD 0 0).getLsbD 0 = (s.live == .b) from panelData_flag s 0]
  exact beq_iff_eq

theorem panelData_hostTest : (s.panelData.getD 0 0).getLsbD 4 = true ↔ 0 < s.hostTimer := by
  rw [show (s.panelData.getD 0 0).getLsbD 4 = decide (0 < s.hostTimer) from panelData_flag s 4]
  exact decide_eq_true_iff

/-- Bytes 3 and 4 hold the ticks remaining of the host's lamp test. -/
theorem panelData_ticks (h : s.hostTimer ≤ 5000) : numberOf ((s.panelData.drop 3).take 2) = s.hostTimer :=
  numberOf_bytes2 (by omega)

end

/-- READ PANEL answers the panel as it stands and leaves everything but the link. -/
theorem exec_readPanel {s : State} (hready : s.Ready) :
    exec .readPanel s = .next { s with link := s.answered .readPanel .ok s.panelData } :=
  hostCommand_answered (s' := s) (a := ⟨.ok, s.panelData⟩) hready fun _ => rfl

/-! ### The statements -/

/-- Settles O40: the checks are the outcomes of `State.writeWindow`; carried out, the change is `State.setStaging`, which
writes the bank that is not live. -/
theorem writeWindowChecksAndEffect : Obligations.WriteWindowChecksAndEffect := by
  intro window entry s hready
  refine ⟨fun hwindow => ?noSuch, fun hwindow hentry => ?badValue, fun w e hwindow hentry =>
    ⟨fun hswap => ?busy, fun hswap hlive => ?bankB, fun hswap hlive => ?bankA⟩⟩
  case noSuch => exact hostCommand_refused hready fun _ => writeWindow_noSuch hwindow
  case badValue =>
    exact hostCommand_refused hready fun _ => writeWindow_badValue (w := ⟨window.toNat, hwindow⟩) rfl hentry
  case busy => exact hostCommand_refused hready fun _ => writeWindow_busy hwindow hentry hswap
  case bankB => rw [exec_writeWindow_setStaging hready hwindow hentry hswap, setStaging_of_live_a hlive]
  case bankA => rw [exec_writeWindow_setStaging hready hwindow hentry hswap, setStaging_of_live_b hlive]

/-- Settles O45: the six bytes are those of `State.panelData`; the brightnesses, the ticks and the phase fit theirs by the
device's ranges (R144, R147). -/
theorem readPanelReturnsThePanel : Obligations.ReadPanelReturnsThePanel := by
  intro s hready hrange
  obtain ⟨-, -, -, -, hticks, -, hrequested, -, hbrightness⟩ := hrange
  have hphase : s.phase.val < 256 := by omega
  exact ⟨s.panelData, exec_readPanel hready, rfl, panelData_live s, panelData_flag s 1, panelData_flag s 2,
    panelData_flag s 3, panelData_hostTest s, panelData_flags_lt s, toNat_byte (by omega), toNat_byte (by omega),
    panelData_ticks s hticks, toNat_byte hphase⟩

/-- Settles O41: READ WINDOW's outcomes are those of `State.readWindow`, whose data byte is the entry's by
`byte_eq_ofNat_byteValue`; COPY LIVE TO STAGING writes the bank that is not live. -/
theorem readWindowAndCopyLiveToStaging : Obligations.ReadWindowAndCopyLiveToStaging := by
  refine ⟨fun bank window s hready => ⟨fun hwindow => ?noSuch, fun hwindow hbank => ?badValue, fun w hwindow =>
      ⟨fun hbank => ?entryA, fun hbank => ?entryB⟩⟩,
    fun s hready => ⟨fun hswap => ?busy, fun hswap hlive => ?copyToB, fun hswap hlive => ?copyToA⟩⟩
  case noSuch => exact hostCommand_refused hready fun _ => readWindow_noSuch hwindow
  case badValue =>
    exact hostCommand_refused hready fun _ => readWindow_badValue (w := ⟨window.toNat, hwindow⟩) rfl hbank
  case entryA => exact hostCommand_answered (s' := s) (a := ⟨.ok, _⟩) hready fun _ => readWindow_a hwindow hbank
  case entryB => exact hostCommand_answered (s' := s) (a := ⟨.ok, _⟩) hready fun _ => readWindow_b hwindow hbank
  case busy => exact hostCommand_refused hready fun _ => copyLive_busy hswap
  case copyToB =>
    exact hostCommand_answered (s' := { s with bankB := s.bankA }) (a := ⟨.ok, []⟩) hready fun _ =>
      copyLive_of_live_a hswap hlive
  case copyToA =>
    exact hostCommand_answered (s' := { s with bankA := s.bankB }) (a := ⟨.ok, []⟩) hready fun _ =>
      copyLive_of_live_b hswap hlive

end Sys2Proof.Machine
end

section
/-!
The attention unit's commands READ CAUSES, CLEAR CAUSES and SET CAUSE ENABLES: what each leaves, the level of ATTNn after it,
and the statement about them (R158, R159, R160).
-/

namespace Sys2Proof.Machine

/-! ### What the commands leave -/

/-- The causes that `mask` marks no longer pending, with ATTNn at its level (R158, R160). -/
def State.causesCleared (s : State) (mask : Byte) : State :=
  { s with causes := s.causes &&& ~~~mask }.refreshAttn

/-- All eight enables replaced, with ATTNn at its level (R159, R160). -/
def State.enabledBy (s : State) (enables : Byte) : State := { s with enables := enables }.refreshAttn

section

variable (s : State) (mask enables : Byte)

theorem clearCauses_eq : s.clearCauses mask = accept (s.causesCleared mask) [s.causes] := rfl

theorem setCauseEnables_eq : s.setCauseEnables enables = accept (s.enabledBy enables) [] := rfl

/-- Neither reads nor moves the link. -/
theorem causesCleared_link (l : Link) :
    { s with link := l }.causesCleared mask = { s.causesCleared mask with link := l } := rfl

theorem enabledBy_link (l : Link) :
    { s with link := l }.enabledBy enables = { s.enabledBy enables with link := l } := rfl

/-- A cause is pending after the clearing exactly where it was pending and is not marked (R158). -/
theorem causesCleared_pending (i : Fin 8) :
    (s.causesCleared mask).causes.getLsbD i.val = (s.causes.getLsbD i.val && !mask.getLsbD i.val) := by
  have hcauses : (s.causesCleared mask).causes = s.causes &&& ~~~mask := rfl
  simp [hcauses]

/-- ATTNn put at its level obeys R160, whatever it was before. -/
theorem refreshAttn_attnLaw : s.refreshAttn.AttnLaw := attnLevel_iff s

theorem causesCleared_attnLaw : (s.causesCleared mask).AttnLaw := refreshAttn_attnLaw _

theorem enabledBy_attnLaw : (s.enabledBy enables).AttnLaw := refreshAttn_attnLaw _

end

/-! ### The commands over the link -/

section

variable {s : State} (hready : s.Ready) (b : Byte)
include hready

/-- READ CAUSES answers the pending causes and leaves everything but the link. -/
theorem exec_readCauses : exec .readCauses s = .next { s with link := s.answered .readCauses .ok [s.causes] } :=
  hostCommand_answered (s' := s) (a := ⟨.ok, [s.causes]⟩) hready fun _ => rfl

/-- CLEAR CAUSES answers the causes as they stood before it cleared any. -/
theorem exec_clearCauses : exec (.clearCauses b) s =
    .next { s.causesCleared b with link := s.answered (.clearCauses b) .ok [s.causes] } := by
  have hbody (l : Link) : State.clearCauses b { s with link := l } =
      ({ s.causesCleared b with link := l }, ⟨.ok, [s.causes]⟩) := by
    rw [clearCauses_eq, causesCleared_link, accept]
  exact hostCommand_answered hready hbody

theorem exec_setCauseEnables : exec (.setCauseEnables b) s =
    .next { s.enabledBy b with link := s.answered (.setCauseEnables b) .ok [] } := by
  have hbody (l : Link) : State.setCauseEnables b { s with link := l } = ({ s.enabledBy b with link := l }, ⟨.ok, []⟩) := by
    rw [setCauseEnables_eq, enabledBy_link, accept]
  exact hostCommand_answered hready hbody

end

/-! ### The statement -/

/-- Settles O59: CLEAR CAUSES leaves `State.causesCleared` and SET CAUSE ENABLES `State.enabledBy`; both put ATTNn at its
level, which is what R160 asks of it. -/
theorem causesAreReadClearedAndEnabled : Obligations.CausesAreReadClearedAndEnabled := by
  intro b s hready
  refine ⟨exec_readCauses hready, ⟨_, exec_clearCauses hready b, ?clearedFrame, ?stillPending, ?clearedAttn⟩,
    ⟨_, exec_setCauseEnables hready b, ?enabledFrame, ?enabledAttn⟩⟩
  case clearedFrame => rfl
  case stillPending => exact causesCleared_pending s b
  case clearedAttn => exact causesCleared_attnLaw s b
  case enabledFrame => rfl
  case enabledAttn => exact enabledBy_attnLaw s b

end Sys2Proof.Machine
end

section
/-!
The rows of the host link, once for all of them: the act of the unit that each host command reaches, the transaction around
it, and what the link holds, answers and shows on MISO (R162 to R171).
-/

namespace Sys2Proof.Machine

/-! ### The unit's act of a host command -/

/-- The act of the unit that a host command reaches, and its answer; none for a row that is no host command. -/
def unitBody : Instr → Option (State → State × Answer)
  | .unknownCommand _ => some (refuse .unknownCommand)
  | .definePoint point source options debounce => some (State.definePoint point source options debounce)
  | .placeInService point => some (State.placeInService point)
  | .removeFromService point => some (State.removeFromService point)
  | .setClass point cls => some (State.setClass point cls)
  | .readPoint point => some (State.readPoint point)
  | .setCondition point condition => some (State.setCondition point condition)
  | .readLines => some fun s => accept s s.linesData
  | .acknowledge scope => some (State.scopedAction .ack scope)
  | .silence => some State.hostSilence
  | .resetPoints scope => some (State.scopedAction .reset scope)
  | .setClassOptions cls options => some (State.setClassOptions cls options)
  | .setGroupOptions group options => some (State.setGroupOptions group options)
  | .readGroup group => some (State.readGroup group)
  | .setChatterLimit limit => some (State.setChatterLimit limit)
  | .listTop => some State.listTop
  | .listSeek point => some (State.listSeek point)
  | .readEntry => some State.readEntry
  | .listMark => some State.listMark
  | .listReturn => some State.listReturn
  | .readListSummary => some fun s => accept s s.summaryData
  | .shelve point high low => some (State.shelve point high low)
  | .unshelve point => some (State.unshelve point)
  | .readShelfSlot slot => some (State.readShelfSlot slot)
  | .writeWindow window entry => some (State.writeWindow window entry)
  | .readWindow bank window => some (State.readWindow bank window)
  | .swapBanks => some State.swapBanks
  | .copyLiveToStaging => some State.copyLive
  | .setBrightness brightness => some (State.setBrightness brightness)
  | .setPanel enable => some (State.setPanel enable)
  | .lampTest value => some (State.hostLampTest value)
  | .readPanel => some fun s => accept s s.panelData
  | .readCauses => some fun s => accept s [s.causes]
  | .clearCauses mask => some (State.clearCauses mask)
  | .setCauseEnables enables => some (State.setCauseEnables enables)
  | .setButtonLock mask => some (State.setButtonLock mask)
  | .readButtons => some fun s => accept s s.buttonsData
  | .readUptime => some fun s => accept s (bytes4 s.uptime)
  | .softReset => some fun s => accept s.softResetAll []
  | .hardReset _ | .tick | .sample _ _ | .frameStart | .secondTick | .windowBoundary | .shelfExpiry
  | .chimeTimerExpiry | .hostTestTimerExpiry | .flashPhaseAdvance | .swap | .brightnessIntoForce
  | .shortTransaction _ | .transactionBegin | .transactionEnd => none

/-- The row of a host command is its unit's act, in the transaction around it. -/
theorem exec_eq_hostCommand {c : Instr} {body : State → State × Answer} (h : unitBody c = some body) (s : State) :
    exec c s = hostCommand c body s := by
  cases c with
  | hardReset _ | tick | sample _ _ | frameStart | secondTick | windowBoundary | shelfExpiry | chimeTimerExpiry
  | hostTestTimerExpiry | flashPhaseAdvance | swap | brightnessIntoForce | shortTransaction _ | transactionBegin
  | transactionEnd => cases h
  | _ => obtain rfl := Option.some.inj h; rfl

/-- A host command is a row that reaches a unit, or is refused as unknown. -/
theorem isHostCommand_iff {c : Instr} : c.isHostCommand ↔ ∃ body, unitBody c = some body := by
  cases c <;> simp [Instr.isHostCommand, Instr.mosiBytes, unitBody]

theorem not_isHostCommand_iff {c : Instr} : ¬ c.isHostCommand ↔ unitBody c = none := by
  rw [isHostCommand_iff, ← Option.isSome_iff_exists, Option.not_isSome_iff_eq_none]

/-- A command taken in a state of the host link, with no more said of the unit's act: the link is as the answer leaves it,
and all else as the act leaves it, which saw the link of the transaction. -/
theorem hostCommand_ready {s : State} {c : Instr} {body : State → State × Answer} (hr : s.Ready) :
    ∃ l, hostCommand c body s = .next { (body { s with link := l }).1 with
      link := s.answered c (body { s with link := l }).2.result (body { s with link := l }).2.data } := by
  rcases hr with h | h
  · refine ⟨s.openTransaction.link, ?_⟩
    rw [hostCommand_idle h, ← openTransaction_eq]
    simp [State.takeCommand, State.raiseCs, State.answered, State.openTransaction, h]
  · refine ⟨s.link, ?_⟩
    rw [hostCommand_receiving h]
    simp [State.takeCommand, State.answered, h]

/-! ### What holds across any host command -/

theorem not_ready_iff {s : State} : ¬ s.Ready ↔ s.link.phase = .taken ∨ s.link.phase = .ignored := by
  cases hp : s.link.phase <;> simp [State.Ready, hp]

/-- What the unit's act keeps, and a change of the link alone keeps, is kept by the row. -/
theorem hostCommand_keeps {R : State → State → Prop} {c : Instr} {body : State → State × Answer} {s t : State}
    (hrefl : R s s)
    (hbody : ∀ l l' : Link, R s { (body { s with link := l }).1 with link := l' })
    (h : hostCommand c body s = .next t) : R s t := by
  by_cases hr : s.Ready
  · obtain ⟨l, hl⟩ := hostCommand_ready (c := c) (body := body) hr
    rw [hl] at h
    cases h
    exact hbody l _
  · rw [hostCommand_ignored (not_ready_iff.1 hr)] at h
    cases h
    exact hrefl

/-- Settles O1: it is the step's own equation. -/
theorem stepRunsTheFrontCommand : Obligations.StepRunsTheFrontCommand := fun _ _ _ => rfl

/-! ### The edges of CSn (R162, R164, R165, R169) -/

section

variable {s : State}

theorem raiseCs_idle (h : s.link.phase = .idle) : s.raiseCs = s := by simp only [State.raiseCs, h]

theorem raiseCs_receiving (h : s.link.phase = .receiving) : s.raiseCs =
    { s with link := { s.link with phase := .idle, bytes := 0, command := none, params := [], lastErr := true } } := by
  simp only [State.raiseCs, h]

theorem raiseCs_taken (h : s.link.phase = .taken) : s.raiseCs =
    { s with link := { s.link with phase := .idle, bytes := 0, command := none, params := [] } } := by
  simp only [State.raiseCs, h]

theorem raiseCs_ignored (h : s.link.phase = .ignored) : s.raiseCs =
    { s with link := { s.link with phase := .idle } } := by
  simp only [State.raiseCs, h]

/-- LASTERR is the only thing a rise leaves for the next falling edge to read. -/
theorem beginTransaction_eq (s : State) : s.beginTransaction =
    { s with link :=
      { phase := .receiving, bytes := 0, command := none, params := [],
        status := some { s with link := s.raiseCs.link }.statusByte, answer := none,
        lastErr := s.raiseCs.link.lastErr } } := by
  unfold State.beginTransaction
  rw [raiseCs_eq]
  rfl

theorem statusByte_link (l : Link) (h : l.lastErr = s.link.lastErr) : { s with link := l }.statusByte = s.statusByte := by
  unfold State.statusByte
  rw [h]
  rfl

/-- Only the rise that ends a short transaction sets LASTERR (R164, R167). -/
theorem raiseCs_lastErr (s : State) :
    s.raiseCs.link.lastErr = if s.link.phase = .receiving then true else s.link.lastErr := by
  cases h : s.link.phase with
  | idle => rw [raiseCs_idle h]; rfl
  | receiving => rw [raiseCs_receiving h]; rfl
  | taken => rw [raiseCs_taken h]; rfl
  | ignored => rw [raiseCs_ignored h]; rfl

theorem beginTransaction_of_not_receiving (h : s.link.phase ≠ .receiving) : s.beginTransaction = s.openTransaction := by
  have he : s.raiseCs.link.lastErr = s.link.lastErr := by rw [raiseCs_lastErr, if_neg h]
  rw [beginTransaction_eq, statusByte_link _ he, he]
  rfl

theorem execShortTransaction_eq (bytes : List Byte) (s : State) : execShortTransaction bytes s =
    .next (if s.link.phase = .idle then s.openTransaction.raiseCs else s.raiseCs) := by
  cases h : s.link.phase <;> simp [execShortTransaction, h]

end

/-- Settles O14: each edge by the phase it falls in. -/
theorem transactionsBeginAndEnd : Obligations.TransactionsBeginAndEnd := by
  refine ⟨fun s h => ?begins, fun s h => ?beginsAfterShort, fun s h => ?shortEnds, fun s h => ?takenEnds,
    fun s h => ?ignoredEnds, fun s h => ?idleEnds, fun bytes s h => ?short, fun bytes s h => ?shortAlone,
    fun bytes s h => ?shortTaken, fun bytes s h => ?shortIgnored, fun c s hc h => ?ignores⟩
  case begins => exact congrArg _ (beginTransaction_of_not_receiving h)
  case beginsAfterShort =>
    intro risen
    have hl : s.raiseCs.link.lastErr = risen.link.lastErr := by rw [raiseCs_lastErr, if_pos h]
    have hs : { s with link := s.raiseCs.link }.statusByte = risen.statusByte := statusByte_link (s := risen) _ hl
    refine congrArg _ ((beginTransaction_eq s).trans ?_)
    rw [hs, hl]
  case shortEnds => exact congrArg _ (raiseCs_receiving h)
  case takenEnds => exact congrArg _ (raiseCs_taken h)
  case ignoredEnds => exact congrArg _ (raiseCs_ignored h)
  case idleEnds => exact congrArg _ (raiseCs_idle h)
  case short => exact (execShortTransaction_eq bytes s).trans (by simp [h, raiseCs_receiving h])
  case shortAlone =>
    have hopen : s.openTransaction.link.phase = .receiving := rfl
    exact (execShortTransaction_eq bytes s).trans (by rw [if_pos h, raiseCs_receiving hopen]; rfl)
  case shortTaken => exact (execShortTransaction_eq bytes s).trans (by simp [h, raiseCs_taken h])
  case shortIgnored => exact (execShortTransaction_eq bytes s).trans (by simp [h, raiseCs_ignored h])
  case ignores =>
    obtain ⟨body, hbody⟩ := isHostCommand_iff.1 hc
    rw [exec_eq_hostCommand hbody]
    exact hostCommand_ignored h

/-- Settles O15: with CSn high the row of a command is defined as the three. -/
theorem commandAloneIsItsWholeTransaction : Obligations.CommandAloneIsItsWholeTransaction := by
  intro c s hc hidle
  obtain ⟨body, hbody⟩ := isHostCommand_iff.1 hc
  have hopen : s.openTransaction.link.phase = .receiving := rfl
  have hbegin : exec .transactionBegin s = .next s.openTransaction :=
    congrArg _ (beginTransaction_of_not_receiving (by simp [hidle]))
  refine ⟨_, _, hbegin, (exec_eq_hostCommand hbody _).trans (hostCommand_receiving hopen), ?_⟩
  rw [exec_eq_hostCommand hbody, hostCommand_idle hidle]
  rfl

/-- Settles O19: the refusal of an unknown code reaches no unit. -/
theorem unknownCodesAreAnswered : Obligations.UnknownCodesAreAnswered := by
  intro code s hready _
  refine ⟨hostCommand_refused hready fun _ => rfl, ?_⟩
  rcases hready with h | h <;> simp [State.answered, h, Result.setsLastErr]

/-! ### What MISO carries (R162, R165, R169) -/

section

variable {s : State} {k : Nat}

theorem misoByte_none (h : s.link.phase = .idle ∨ s.link.phase = .ignored) : s.misoByte k = none := by
  rcases h with h | h <;> simp [State.misoByte, h]

theorem misoByte_receiving (h : s.link.phase = .receiving) :
    s.misoByte k = some (if k = 0 then s.link.status.getD 0x00#8 else 0x00#8) := by
  simp only [State.misoByte, h]

/-- After the taking: the status, 00H for every byte of the command but the first, then result and data, then 00H. -/
theorem misoByte_taken {a : Answer} (h : s.link.phase = .taken) (ha : s.link.answer = some a) :
    s.misoByte k = some (if k = 0 then s.link.status.getD 0x00#8
      else if k < s.link.bytes then 0x00#8
      else ((a.result.code :: a.data)[k - s.link.bytes]?).getD 0x00#8) := by
  simp only [State.misoByte, h, ha]

end

/-- Settles O16: byte by byte, by the ranges of `k` that `misoByte_taken` tells apart. -/
theorem misoCarriesStatusResultAndData : Obligations.MisoCarriesStatusResultAndData := by
  rintro s k ⟨hreceiving, htaken, -⟩
  refine ⟨misoByte_none, ?first, ?zeros, ?answer⟩
  case first =>
    have hstatus : s.link.phase = .receiving ∨ s.link.phase = .taken → s.link.status.isSome = true := by
      rintro (h | h)
      exacts [(hreceiving h).1, (htaken h).1]
    intro h
    obtain ⟨b, hb⟩ := Option.isSome_iff_exists.1 (hstatus h)
    rcases h with h | h
    · rw [misoByte_receiving h, hb]; rfl
    · simp [State.misoByte, h, hb]
  case zeros =>
    intro h hk
    rw [misoByte_receiving h, if_neg hk.ne']
  case answer =>
    intro a h ha
    obtain ⟨-, hbytes, -⟩ := htaken h
    rw [misoByte_taken h ha, hbytes]
    refine ⟨fun hk hle => ?_, fun hk => ?_, fun i hi hk => ?_, fun hk => ?_⟩
    · rw [if_neg hk.ne', if_pos (by omega)]
    · subst hk
      simp
    · have hsub : k - (s.link.params.length + 1) = i + 1 := by omega
      rw [if_neg (by omega), if_neg (by omega), hsub]
      simp [hi]
    · rw [if_neg (by omega), if_neg (by omega), List.getElem?_eq_none (by simp; omega)]
      rfl

/-! ### Bits on the wire (R162, R164) -/

/-- Eight bits sampled make their byte. -/
theorem bits8_msbFirst (b : Byte) : bits8 (b.getMsbD 0) (b.getMsbD 1) (b.getMsbD 2) (b.getMsbD 3) (b.getMsbD 4)
    (b.getMsbD 5) (b.getMsbD 6) (b.getMsbD 7) = b := by
  revert b
  decide

theorem completeBytes_part {part : List Bool} (h : part.length < 8) : completeBytes part = [] := by
  match part, h with
  | [], _ | [_], _ | [_, _], _ | [_, _, _], _ | [_, _, _, _], _ | [_, _, _, _, _], _ | [_, _, _, _, _, _], _
  | [_, _, _, _, _, _, _], _ => rfl

theorem completeBytes_cons (b : Byte) (bits : List Bool) :
    completeBytes (msbFirst b ++ bits) = b :: completeBytes bits :=
  congrArg (· :: completeBytes bits) (bits8_msbFirst b)

/-- Settles O17: by induction on the bytes of MOSI; on MISO a bit is one of its byte's. -/
theorem bytesTravelMostSignificantBitFirst : Obligations.BytesTravelMostSignificantBitFirst := by
  refine ⟨fun bytes part hpart => ?mosi, fun s k b hb => ?miso, fun s k i hb => ?highImpedance⟩
  case mosi =>
    induction bytes with
    | nil => exact completeBytes_part hpart
    | cons b bytes ih => rw [List.flatMap_cons, List.append_assoc, completeBytes_cons, ih]
  case miso => simp [msbFirst, State.misoBit, hb]
  case highImpedance => simp [State.misoBit, hb]

/-! ### The status byte (R168, E.2) -/

/-- The bits of a byte made of eight, by number. -/
theorem getLsbD_bits8 (b7 b6 b5 b4 b3 b2 b1 b0 : Bool) (i : Fin 8) :
    (bits8 b7 b6 b5 b4 b3 b2 b1 b0).getLsbD i.val = ![b0, b1, b2, b3, b4, b5, b6, b7] i := by
  revert b7 b6 b5 b4 b3 b2 b1 b0 i
  decide

/-- The status byte's bits, in ascending order. -/
theorem statusByte_bit (s : State) (i : Fin 8) : s.statusByte.getLsbD i.val =
    ![s.anyLockout, s.anyShelved, s.noService, s.link.lastErr, s.horn, s.lampTestOn, s.swapPending, s.attn] i :=
  getLsbD_bits8 _ _ _ _ _ _ _ _ i

/-- Settles O18: the byte is composed from the device as it stands, and each bit says what E.2 gives it. -/
theorem statusByteReportsTheDevice : Obligations.StatusByteReportsTheDevice := by
  intro s t hidle hattn hexec
  have hbegin : exec .transactionBegin s = .next s.openTransaction :=
    congrArg _ (beginTransaction_of_not_receiving (by simp [hidle]))
  rw [hbegin] at hexec
  cases hexec
  refine ⟨s.statusByte, rfl, ?attn, statusByte_bit s 6, ?lampTest, statusByte_bit s 4, statusByte_bit s 3, ?noService,
    ?shelved, ?lockout⟩
  case attn => exact (Bool.eq_iff_iff.1 (statusByte_bit s 7)).trans hattn
  case lampTest => exact (Bool.eq_iff_iff.1 (statusByte_bit s 5)).trans (by simp [State.lampTestOn])
  case noService =>
    refine (Bool.eq_iff_iff.1 (statusByte_bit s 2)).trans ?_
    simp [State.noService, allPoints]
  case shelved =>
    refine (Bool.eq_iff_iff.1 (statusByte_bit s 1)).trans ?_
    simp [State.anyShelved, allSlots, Option.isSome_iff_ne_none]
  case lockout =>
    refine (Bool.eq_iff_iff.1 (statusByte_bit s 0)).trans ?_
    simp [State.anyLockout, allPoints]

/-! ### The bytes of a transaction (R163, R164, R170) -/

/-- The rows of the catalogue with as many parameters as `params` has are read with them, as well-formed commands. -/
theorem catalogue_reads {params : List Byte} (h : params.length ≤ 4) :
    (commandCatalogue.all fun row => row.2 != params.length || (catalogueCommand row.1 params).any Instr.wellFormed) = true := by
  match params, h with
  | [], _ | [_], _ | [_, _], _ | [_, _, _], _ | [_, _, _, _], _ => rfl

/-- A command byte of the catalogue with all its parameters names a command (E.1, section D). -/
theorem catalogueCommand_read {code : Byte} {params : List Byte} (h : paramCount code = some params.length) :
    ∃ c, catalogueCommand code params = some c ∧ c.wellFormed = true := by
  obtain ⟨row, hfind, hcount⟩ := Option.map_eq_some_iff.1 h
  have hmem : row ∈ commandCatalogue := List.mem_of_find?_eq_some hfind
  have hcode : row.1 = code := by simpa using List.find?_some hfind
  have hle : ∀ row ∈ commandCatalogue, row.2 ≤ 4 := by decide
  have hread := List.all_eq_true.1 (catalogue_reads (hcount ▸ hle row hmem)) row hmem
  rw [hcode, hcount] at hread
  cases hc : catalogueCommand code params with
  | none => simp [hc] at hread
  | some c => exact ⟨c, rfl, by simpa [hc] using hread⟩

section

variable {code : Byte} {rest : List Byte} {n : Nat}

theorem transactionCommand_unknown (h : paramCount code = none) :
    transactionCommand (code :: rest) = .unknownCommand code := by
  simp only [transactionCommand, h]

theorem transactionCommand_short (h : paramCount code = some n) (hlen : rest.length < n) :
    transactionCommand (code :: rest) = .shortTransaction (code :: rest) := by
  simp only [transactionCommand, h, hlen, if_true]

/-- A command is taken at its last parameter byte, and the bytes after it are ignored (R163, R165). -/
theorem transactionCommand_taken {params extra : List Byte} {c : Instr} (h : paramCount code = some params.length)
    (hc : catalogueCommand code params = some c) : transactionCommand (code :: params ++ extra) = c := by
  have hlen : ¬ (params ++ extra).length < params.length := by simp
  simp only [transactionCommand, List.cons_append, h, hlen, if_false, List.take_left, hc, Option.getD_some]

end

/-- What a host command of the catalogue sends is its command byte and parameters, as the catalogue has them. -/
theorem mosiBytes_catalogue {c : Instr} {sent : List Byte} (hc : ∀ code, c ≠ .unknownCommand code)
    (h : c.mosiBytes = some sent) :
    ∃ code params, sent = code :: params ∧ paramCount code = some params.length ∧
      catalogueCommand code params = some c := by
  cases c with
  | unknownCommand code => exact absurd rfl (hc code)
  | hardReset _ | tick | sample _ _ | frameStart | secondTick | windowBoundary | shelfExpiry | chimeTimerExpiry
  | hostTestTimerExpiry | flashPhaseAdvance | swap | brightnessIntoForce | shortTransaction _ | transactionBegin
  | transactionEnd => cases h
  | _ => cases h; exact ⟨_, _, rfl, rfl, rfl⟩

/-- Settles O7: the reading of a command byte and its parameters by the catalogue, one case for each outcome of the reading. -/
theorem transactionBytesReadBack : Obligations.TransactionBytesReadBack := by
  refine ⟨fun c sent extra hc hsent => ?command, fun bytes hshort => ?short, fun bytes => ?wellFormed⟩
  case command =>
    by_cases hunknown : ∃ code, c = .unknownCommand code
    · obtain ⟨code, rfl⟩ := hunknown
      cases hsent
      exact transactionCommand_unknown (Option.isNone_iff_eq_none.1 hc)
    · obtain ⟨code, params, rfl, hcount, hread⟩ := mosiBytes_catalogue (fun code e => hunknown ⟨code, e⟩) hsent
      exact transactionCommand_taken hcount hread
  case short =>
    match bytes with
    | [] => rfl
    | code :: rest =>
      cases hcount : paramCount code with
      | none => simp [Instr.wellFormed, bytesNotTaken, hcount] at hshort
      | some n =>
        exact transactionCommand_short hcount (by simpa [Instr.wellFormed, bytesNotTaken, hcount] using hshort)
  case wellFormed =>
    match bytes with
    | [] => rfl
    | code :: rest =>
      cases hcount : paramCount code with
      | none => simp [transactionCommand_unknown hcount, Instr.wellFormed, hcount]
      | some n =>
        by_cases hlen : rest.length < n
        · simp [transactionCommand_short hcount hlen, Instr.wellFormed, bytesNotTaken, hcount, hlen]
        · have htaken : (rest.take n).length = n := List.length_take_of_le (Nat.le_of_not_lt hlen)
          have hcount' : paramCount code = some (rest.take n).length := htaken.symm ▸ hcount
          obtain ⟨c, hread, hwell⟩ := catalogueCommand_read hcount'
          have hrow : transactionCommand (code :: rest) = c := by
            simpa using transactionCommand_taken (extra := rest.drop n) hcount' hread
          rwa [hrow]

end Sys2Proof.Machine
end

section
/-!
What a row can do, once for all of them: apart from SAMPLE, HARD_RESET and the rows of the link, each row is one act of the
annunciation or of the device, or does nothing. The invariants are read through this.
-/

namespace Sys2Proof.Machine

/-! ### The acts -/

/-- The acts on point records, list, groups, shelf and class options. Each carries what the row's checks have found. -/
inductive AnnAct : Instr → State → State → Prop
  | acted {c : Instr} {s : State} {ev : SeqEvent} (hev : ev = .ack ∨ ev = .reset) (ps : List PointNo) :
    AnnAct c s (s.actOn ev ps).1
  | silenced {c : Instr} {s : State} : AnnAct c s s.silenceAll
  | conditionSet {c : Instr} {s : State} {p : PointNo} (cond : Condition) (hin : (s.point p).inService = true)
    (hsrc : (s.point p).source = .host) : AnnAct c s (s.changeCondition p cond)
  | placed {c : Instr} {s : State} {p : PointNo} (hout : (s.point p).inService = false) (hline : s.lineTaken p = false) :
    AnnAct c s (s.placePoint p)
  | removed {c : Instr} {s : State} {p : PointNo} (hin : (s.point p).inService = true) : AnnAct c s (s.removePoint p)
  | shelved {s : State} {p : PointNo} {k : SlotNo} {m : Nat} {b₁ b₂ b₃ : Byte} (hin : (s.point p).inService = true)
    (hshelf : (s.point p).shelf = none) (hfree : s.slot k = none) (hlo : 1 ≤ m) (hhi : m ≤ 1440) :
    AnnAct (.shelve b₁ b₂ b₃) s ((s.takeSlot k p (m * 60)).shelveNotice p)
  | unshelved {c : Instr} {s : State} {p : PointNo} {k : SlotNo} (hshelf : (s.point p).shelf = some k) :
    AnnAct c s ((s.freeSlot k p).arriveIfOffNormal p)
  | classChanged {s : State} {b₁ b₂ : Byte} (p : PointNo) (cls : ClassNo) :
    AnnAct (.setClass b₁ b₂) s (s.changeClass p cls)
  | defined {s : State} {p : PointNo} {cfg : PointConfig} {b₁ b₂ b₃ b₄ : Byte} (hout : (s.point p).inService = false)
    (hlo : 1 ≤ cfg.debounce) (hhi : cfg.debounce ≤ 250) :
    AnnAct (.definePoint b₁ b₂ b₃ b₄) s (s.setPoint p { s.point p with toPointConfig := cfg })
  | optionSet {c : Instr} {s : State} (g : GroupNo) (on : Bool) :
    AnnAct c s (s.setGroup g ⟨on, optionTable on (s.groupQuiet g) (s.groupRec g).firstOut⟩)
  | listPlaced {c : Instr} {s : State} {q : Option PointNo} {m : Mark}
    (hq : ∀ p, q = some p → p ∈ s.standing ∨ s.cursor = some p ∨ s.mark = .entry p)
    (hm : ∀ p, m = .entry p → s.cursor = some p ∨ s.mark = .entry p) :
    AnnAct c s { s with cursor := q, mark := m }
  | classOptionsSet {c : Instr} {s : State} (cls : ClassNo) (o : ClassOptions) :
    AnnAct c s { s with classOptions := s.classOptions.set cls o }.refreshHorn
  | softReset {s : State} : AnnAct .softReset s s.softResetAll
  | secondTaken {s : State} : AnnAct .secondTick s s.takeSecond
  | boundaryTaken {s : State} : AnnAct .windowBoundary s s.takeBoundary
  | expiredAhead {s : State} : AnnAct .shelfExpiry s s.expireAhead

/-- The acts on the timers, the panel, the limits, the causes and the button lock. -/
inductive DevAct : State → State → Prop
  | ticked {s : State} : DevAct s s.beginTick.tickChime.tickHostTest
  | chimeExpired {s : State} : DevAct s s.tickChime
  | hostTestExpired {s : State} : DevAct s s.tickHostTest
  | hostTestStarted {s : State} : DevAct s s.startHostTest
  | hostTestStopped {s : State} : DevAct s s.stopHostTest
  | frameStarted {s : State} : DevAct s s.startFrame
  | phaseAdvanced {s : State} : DevAct s s.advanceAhead
  | swapped {s : State} : DevAct s s.carryOutSwap
  | brightened {s : State} : DevAct s s.brightnessIntoForce
  | brightnessSet {s : State} {n : Nat} (hlo : 1 ≤ n) (hhi : n ≤ 16) : DevAct s { s with reqBrightness := n }
  | panelSet {s : State} (on : Bool) : DevAct s { s with panelEnabled := on }
  | windowWritten {s : State} (hswap : s.swapPending = false) (w : WindowNo) (e : WindowEntry) :
    DevAct s (s.setStaging w e)
  | swapAsked {s : State} (hswap : s.swapPending = false) : DevAct s { s with swapPending := true }
  | copied {s : State} (hswap : s.swapPending = false) : DevAct s s.copyLive.1
  | limitSet {s : State} {n : Nat} (hn : n = 0 ∨ 2 ≤ n ∧ n ≤ 15) : DevAct s { s with chatterLimit := n }
  | causesCleared {s : State} (mask : Byte) : DevAct s (s.causesCleared mask)
  | enabled {s : State} (enables : Byte) : DevAct s (s.enabledBy enables)
  | relocked {s : State} {mask : Byte} (hmask : mask.toNat < 16) : DevAct s (s.relocked mask)

/-- What a row does of its own: nothing, or one act. -/
inductive Act (c : Instr) (s : State) : State → Prop
  | idle : Act c s s
  | ann {t : State} (h : AnnAct c s t) : Act c s t
  | dev {t : State} (h : DevAct s t) : Act c s t

/-! ### What an operand that is read guarantees -/

theorem pointConfig?_debounce {b₁ b₂ b₃ : Byte} {cfg : PointConfig} (h : pointConfig? b₁ b₂ b₃ = some cfg) :
    1 ≤ cfg.debounce ∧ cfg.debounce ≤ 250 := by
  unfold pointConfig? at h
  split at h
  next src t d hsrc htype hdeb =>
    cases h
    unfold debounce? at hdeb
    split at hdeb
    next hrange => cases hdeb; exact hrange
    next => cases hdeb
  next => cases h

theorem minutes?_range {high low : Byte} {m : Nat} (h : minutes? high low = some m) : 1 ≤ m ∧ m ≤ 1440 := by
  unfold minutes? at h
  dsimp only at h
  split at h
  next hrange => cases h; exact hrange
  next => cases h

theorem lowestFree_free {s : State} {k : SlotNo} (h : s.lowestFree = some k) : s.slot k = none := by
  simpa using List.find?_some h

/-! ### The acts of the host commands -/

section

variable (s : State)

theorem definePoint_act (point source options debounce : Byte) :
    Act (.definePoint point source options debounce) s (s.definePoint point source options debounce).1 := by
  unfold State.definePoint
  split
  next => exact .idle
  next p _ =>
    split_ifs with hin
    · exact .idle
    · split
      next => exact .idle
      next cfg hcfg =>
        obtain ⟨hlo, hhi⟩ := pointConfig?_debounce hcfg
        exact .ann (.defined (by simpa using hin) hlo hhi)

theorem placeInService_act (point : Byte) : Act (.placeInService point) s (s.placeInService point).1 := by
  unfold State.placeInService
  split
  next => exact .idle
  next p _ =>
    split_ifs with hin hline
    · exact .idle
    · exact .idle
    · exact .ann (.placed (by simpa using hin) (by simpa using hline))

theorem removeFromService_act (point : Byte) : Act (.removeFromService point) s (s.removeFromService point).1 := by
  unfold State.removeFromService
  split
  next => exact .idle
  next p _ =>
    split_ifs with hin
    · exact .ann (.removed hin)
    · exact .idle

theorem setClass_act (point cls : Byte) : Act (.setClass point cls) s (s.setClass point cls).1 := by
  unfold State.setClass
  split
  next => exact .idle
  next p _ =>
    split
    next => exact .idle
    next cls _ => exact .ann (.classChanged p cls)

theorem setCondition_act (point condition : Byte) :
    Act (.setCondition point condition) s (s.setCondition point condition).1 := by
  unfold State.setCondition
  split
  next => exact .idle
  next p _ =>
    split_ifs with hin hsrc
    · split
      next => exact .idle
      next cond _ => exact .ann (.conditionSet cond hin hsrc)
    · exact .idle
    · exact .idle

theorem scopedAction_act {c : Instr} {ev : SeqEvent} (hev : ev = .ack ∨ ev = .reset) (scope : Byte) :
    Act c s (s.scopedAction ev scope).1 := by
  unfold State.scopedAction
  split
  next => exact .idle
  next sc _ => exact .ann (.acted hev _)

theorem setClassOptions_act (cls options : Byte) :
    Act (.setClassOptions cls options) s (s.setClassOptions cls options).1 := by
  unfold State.setClassOptions
  split
  next => exact .idle
  next cls _ =>
    split
    next => exact .idle
    next o _ => exact .ann (.classOptionsSet cls o)

theorem setGroupOptions_act (group options : Byte) :
    Act (.setGroupOptions group options) s (s.setGroupOptions group options).1 := by
  unfold State.setGroupOptions
  split
  next => exact .idle
  next g _ =>
    split
    next => exact .idle
    next on _ => exact .ann (.optionSet g on)

theorem setChatterLimit_act (limit : Byte) : Act (.setChatterLimit limit) s (s.setChatterLimit limit).1 := by
  unfold State.setChatterLimit
  split
  next => exact .idle
  next n hn =>
    unfold chatterLimit? at hn
    split at hn
    next hrange => cases hn; exact .dev (.limitSet hrange)
    next => cases hn

theorem readPoint_act (point : Byte) : Act (.readPoint point) s (s.readPoint point).1 := by
  unfold State.readPoint
  split <;> exact .idle

theorem readGroup_act (group : Byte) : Act (.readGroup group) s (s.readGroup group).1 := by
  unfold State.readGroup
  split <;> exact .idle

theorem readShelfSlot_act (slot : Byte) : Act (.readShelfSlot slot) s (s.readShelfSlot slot).1 := by
  unfold State.readShelfSlot
  split <;> exact .idle

theorem readWindow_act (bank window : Byte) : Act (.readWindow bank window) s (s.readWindow bank window).1 := by
  unfold State.readWindow
  split
  next => exact .idle
  next => split <;> exact .idle

/-! ### The list unit's commands: each places the cursor or the mark -/

theorem listTop_act : Act .listTop s s.listTop.1 :=
  .ann (.listPlaced (m := s.mark) (fun _ h => .inl (List.mem_of_mem_head? (by simp [h]))) fun _ h => .inr h)

theorem listSeek_act (point : Byte) : Act (.listSeek point) s (s.listSeek point).1 := by
  unfold State.listSeek
  split
  next => exact .idle
  next p _ =>
    split_ifs with hlisted
    · refine .ann (.listPlaced (m := s.mark) (fun q h => .inl ?_) fun _ h => .inr h)
      cases h
      exact (mem_standing_iff_isListed s p).2 hlisted
    · exact .idle

theorem readEntry_act : Act .readEntry s s.readEntry.1 := by
  unfold State.readEntry
  split
  next p _ => exact .ann (.listPlaced (m := s.mark) (fun _ h => .inl (successor_mem h)) fun _ h => .inr h)
  next => exact .idle

theorem listMark_act : Act .listMark s s.listMark.1 := by
  refine .ann (.listPlaced (q := s.cursor) (fun _ h => .inr (.inl h)) fun p h => .inl ?_)
  cases hcursor : s.cursor with
  | none => simp [hcursor] at h
  | some q =>
    rw [hcursor] at h
    cases h
    rfl

theorem listReturn_act : Act .listReturn s s.listReturn.1 := by
  unfold State.listReturn
  split
  next p hmark =>
    refine .ann (.listPlaced (m := s.mark) (fun q h => .inr (.inr ?_)) fun _ h => .inr h)
    cases h
    exact hmark
  next => exact .ann (.listPlaced (m := s.mark) (by simp) fun _ h => .inr h)
  next => exact .ann (.listPlaced (fun _ h => .inl (List.mem_of_mem_head? (by simp [h]))) (by simp))
  next => exact .idle

/-! ### The shelf unit's and the panel unit's commands -/

theorem shelve_act (point high low : Byte) : Act (.shelve point high low) s (s.shelve point high low).1 := by
  unfold State.shelve
  split
  next => exact .idle
  next p _ =>
    split_ifs with hin hshelf
    · exact .idle
    · split
      next => exact .idle
      next m hm =>
        split
        next => exact .idle
        next k hk =>
          obtain ⟨hlo, hhi⟩ := minutes?_range hm
          exact .ann (.shelved hin (by simpa using hshelf) (lowestFree_free hk) hlo hhi)
    · exact .idle

theorem unshelve_act (point : Byte) : Act (.unshelve point) s (s.unshelve point).1 := by
  unfold State.unshelve
  split
  next => exact .idle
  next p _ =>
    split
    next => exact .idle
    next k hk => exact .ann (.unshelved hk)

theorem writeWindow_act (window entry : Byte) : Act (.writeWindow window entry) s (s.writeWindow window entry).1 := by
  unfold State.writeWindow
  split
  next => exact .idle
  next w _ =>
    split
    next => exact .idle
    next e _ =>
      split_ifs with hswap
      · exact .idle
      · exact .dev (.windowWritten (by simpa using hswap) w e)

theorem swapBanks_act : Act .swapBanks s s.swapBanks.1 := by
  unfold State.swapBanks
  split_ifs with hswap
  · exact .idle
  · exact .dev (.swapAsked (by simpa using hswap))

theorem copyLive_act : Act .copyLiveToStaging s s.copyLive.1 := by
  cases hswap : s.swapPending with
  | true => rw [copyLive_busy hswap]; exact .idle
  | false => exact .dev (.copied hswap)

theorem setBrightness_act (brightness : Byte) : Act (.setBrightness brightness) s (s.setBrightness brightness).1 := by
  unfold State.setBrightness
  split
  next => exact .idle
  next n hn =>
    unfold brightness? at hn
    split at hn
    next hrange => cases hn; exact .dev (.brightnessSet hrange.1 hrange.2)
    next => cases hn

theorem setPanel_act (enable : Byte) : Act (.setPanel enable) s (s.setPanel enable).1 := by
  unfold State.setPanel
  split
  next => exact .idle
  next on _ => exact .dev (.panelSet on)

theorem hostLampTest_act (value : Byte) : Act (.lampTest value) s (s.hostLampTest value).1 := by
  unfold State.hostLampTest
  split
  next => exact .idle
  next => exact .dev .hostTestStarted
  next => exact .dev .hostTestStopped

theorem setButtonLock_act (mask : Byte) : Act (.setButtonLock mask) s (s.setButtonLock mask).1 := by
  by_cases hmask : mask.toNat < 16
  · rw [setButtonLock_ok hmask]
    exact .dev (.relocked hmask)
  · rw [setButtonLock_badValue (Nat.le_of_not_lt hmask)]
    exact .idle

/-! ### Every row -/

/-- A host command does nothing or one act, whatever its operands. -/
theorem unitBody_act {c : Instr} {body : State → State × Answer} (h : unitBody c = some body) : Act c s (body s).1 := by
  cases c with
  | hardReset _ | tick | sample _ _ | frameStart | secondTick | windowBoundary | shelfExpiry | chimeTimerExpiry
  | hostTestTimerExpiry | flashPhaseAdvance | swap | brightnessIntoForce | shortTransaction _ | transactionBegin
  | transactionEnd => cases h
  | unknownCommand _ | readLines | readListSummary | readPanel | readCauses | readButtons => cases h; exact .idle
  | readUptime => obtain rfl := Option.some.inj h; exact .idle
  | definePoint point source options debounce => cases h; exact definePoint_act s point source options debounce
  | placeInService point => cases h; exact placeInService_act s point
  | removeFromService point => cases h; exact removeFromService_act s point
  | setClass point cls => cases h; exact setClass_act s point cls
  | readPoint point => cases h; exact readPoint_act s point
  | setCondition point condition => cases h; exact setCondition_act s point condition
  | acknowledge scope => cases h; exact scopedAction_act s (.inl rfl) scope
  | silence => cases h; exact .ann .silenced
  | resetPoints scope => cases h; exact scopedAction_act s (.inr rfl) scope
  | setClassOptions cls options => cases h; exact setClassOptions_act s cls options
  | setGroupOptions group options => cases h; exact setGroupOptions_act s group options
  | readGroup group => cases h; exact readGroup_act s group
  | setChatterLimit limit => cases h; exact setChatterLimit_act s limit
  | listTop => cases h; exact listTop_act s
  | listSeek point => cases h; exact listSeek_act s point
  | readEntry => cases h; exact readEntry_act s
  | listMark => cases h; exact listMark_act s
  | listReturn => cases h; exact listReturn_act s
  | shelve point high low => cases h; exact shelve_act s point high low
  | unshelve point => cases h; exact unshelve_act s point
  | readShelfSlot slot => cases h; exact readShelfSlot_act s slot
  | writeWindow window entry => cases h; exact writeWindow_act s window entry
  | readWindow bank window => cases h; exact readWindow_act s bank window
  | swapBanks => cases h; exact swapBanks_act s
  | copyLiveToStaging => cases h; exact copyLive_act s
  | setBrightness brightness => cases h; exact setBrightness_act s brightness
  | setPanel enable => cases h; exact setPanel_act s enable
  | lampTest value => cases h; exact hostLampTest_act s value
  | clearCauses mask => cases h; exact .dev (.causesCleared mask)
  | setCauseEnables enables => cases h; exact .dev (.enabled enables)
  | setButtonLock mask => cases h; exact setButtonLock_act s mask
  | softReset => obtain rfl := Option.some.inj h; dsimp only [accept]; exact .ann .softReset

variable {s}

/-- A row that is no host command, no row of the link, and neither SAMPLE nor HARD_RESET does one act on the state as it
stands. -/
theorem exec_act {c : Instr} {t : State} (hhost : ¬ c.isHostCommand) (hshort : ∀ bytes, c ≠ .shortTransaction bytes)
    (hend : c ≠ .transactionEnd) (hbegin : c ≠ .transactionBegin) (hreset : ∀ csLow, c ≠ .hardReset csLow)
    (hsample : ∀ lines pins, c ≠ .sample lines pins) (h : exec c s = .next t) : Act c s t := by
  rw [not_isHostCommand_iff] at hhost
  cases c with
  | hardReset csLow => exact absurd rfl (hreset csLow)
  | sample lines pins => exact absurd rfl (hsample lines pins)
  | shortTransaction bytes => exact absurd rfl (hshort bytes)
  | transactionBegin => exact absurd rfl hbegin
  | transactionEnd => exact absurd rfl hend
  | tick => obtain rfl := Host.Outcome.next.inj h; exact .dev .ticked
  | frameStart => obtain rfl := Host.Outcome.next.inj h; exact .dev .frameStarted
  | secondTick => obtain rfl := Host.Outcome.next.inj h; exact .ann .secondTaken
  | windowBoundary => obtain rfl := Host.Outcome.next.inj h; exact .ann .boundaryTaken
  | shelfExpiry => obtain rfl := Host.Outcome.next.inj h; exact .ann .expiredAhead
  | chimeTimerExpiry =>
    obtain rfl := Host.Outcome.next.inj h
    split_ifs
    exacts [.dev .chimeExpired, .idle]
  | hostTestTimerExpiry =>
    obtain rfl := Host.Outcome.next.inj h
    split_ifs
    exacts [.dev .hostTestExpired, .idle]
  | flashPhaseAdvance => obtain rfl := Host.Outcome.next.inj h; exact .dev .phaseAdvanced
  | swap => obtain rfl := Host.Outcome.next.inj h; exact .dev .swapped
  | brightnessIntoForce => obtain rfl := Host.Outcome.next.inj h; exact .dev .brightened
  | _ => cases hhost

/-- The rows of the link touch the link alone. -/
theorem exec_linkRow {c : Instr} {t : State}
    (hc : (∃ bytes, c = .shortTransaction bytes) ∨ c = .transactionEnd ∨ c = .transactionBegin)
    (h : exec c s = .next t) : ∃ l, t = { s with link := l } := by
  rcases hc with ⟨bytes, rfl⟩ | rfl | rfl
  · have he : exec (.shortTransaction bytes) s = _ := execShortTransaction_eq bytes s
    rw [he] at h
    cases h
    split_ifs
    · exact ⟨_, raiseCs_eq s.openTransaction⟩
    · exact ⟨_, raiseCs_eq s⟩
  · cases h
    exact ⟨_, raiseCs_eq s⟩
  · cases h
    exact ⟨_, beginTransaction_eq s⟩

/-- Every row but SAMPLE and HARD_RESET is one act, or none, whatever the host link makes of it. -/
theorem exec_inv {c : Instr} {t : State} (hreset : ∀ csLow, c ≠ .hardReset csLow)
    (hsample : ∀ lines pins, c ≠ .sample lines pins) (h : exec c s = .next t) :
    ∃ l l' u, Act c { s with link := l } u ∧ t = { u with link := l' } := by
  by_cases hhost : c.isHostCommand
  · obtain ⟨body, hbody⟩ := isHostCommand_iff.1 hhost
    rw [exec_eq_hostCommand hbody] at h
    refine hostCommand_keeps (R := fun s t => ∃ l l' u, Act c { s with link := l } u ∧ t = { u with link := l' })
      ⟨s.link, s.link, s, .idle, rfl⟩ (fun l l' => ⟨l, l', _, unitBody_act _ hbody, rfl⟩) h
  · by_cases hlink : (∃ bytes, c = .shortTransaction bytes) ∨ c = .transactionEnd ∨ c = .transactionBegin
    · obtain ⟨l, rfl⟩ := exec_linkRow hlink h
      exact ⟨s.link, l, s, .idle, rfl⟩
    · obtain ⟨hshort, hend, hbegin⟩ : (∀ bytes, c ≠ .shortTransaction bytes) ∧ c ≠ .transactionEnd ∧
          c ≠ .transactionBegin := by simpa [not_or] using hlink
      exact ⟨s.link, t.link, t, exec_act hhost hshort hend hbegin hreset hsample h, rfl⟩

end

end Sys2Proof.Machine
end

section
/-!
The acts on timers, panel, limits and class options in closed form, and the statements that are those closed forms (R124 to
R126, R130 to R147, R152, R153).
-/

namespace Sys2Proof.Machine

/-! ### The timers and the lamp test (R126, R146, R147, R152) -/

section

variable (s : State)

theorem withCauses_zero : s.withCauses 0#8 = s := by simp [State.withCauses]

/-- The host test timer at a tick: at its last tick the host source ceases (R146, R147). -/
theorem tickHostTest_eq : s.tickHostTest = { s with hostTimer := s.hostTimer - 1 }.withCauses
    (if s.hostTimer = 1 ∧ s.buttonTest = false then 0x80#8 else 0#8) := by
  unfold State.tickHostTest
  rcases Nat.lt_trichotomy s.hostTimer 1 with h | h | h
  · have hzero : s.hostTimer - 1 = s.hostTimer := by omega
    rw [if_neg (by omega), State.stopHostTest, if_neg (by omega), if_neg (by omega), withCauses_zero, hzero]
  · rw [if_neg (by omega), stopHostTest_eq s (by omega)]
    cases hb : s.buttonTest <;> simp [h]
  · rw [if_pos h, if_neg (by omega), withCauses_zero]

theorem stopHostTest_of_stopped (h : s.hostTimer = 0) : s.stopHostTest = s := by
  rw [State.stopHostTest, if_neg (by omega)]

theorem lampTestOn_iff {s : State} : s.lampTestOn = true ↔ s.buttonTest = true ∨ 0 < s.hostTimer := by
  simp [State.lampTestOn]

theorem not_lampTestOn_iff {s : State} : ¬ s.lampTestOn = true ↔ s.buttonTest = false ∧ s.hostTimer = 0 := by
  simp [State.lampTestOn]

/-- A lamp test that comes into force from no source triggers the chime (R126, R146). -/
theorem lampTestChime_eq : s.lampTestChime =
    { s with chimeTimer := if s.buttonTest = false ∧ s.hostTimer = 0 then 500 else s.chimeTimer } := by
  unfold State.lampTestChime
  by_cases h : s.lampTestOn = true
  · rw [if_pos h, if_neg (mt not_lampTestOn_iff.2 (not_not_intro h))]
  · rw [if_neg h, if_pos (not_lampTestOn_iff.1 h)]
    rfl

theorem startHostTest_eq : s.startHostTest =
    { s with
      hostTimer := 5000
      chimeTimer := if s.buttonTest = false ∧ s.hostTimer = 0 then 500 else s.chimeTimer } := by
  rw [State.startHostTest, lampTestChime_eq]
  rfl

/-- A tick whole. -/
theorem tick_eq : s.beginTick.tickChime.tickHostTest =
    { s with
      periodCount := 0
      tickCount := s.tickCount + 1
      chimeTimer := s.chimeTimer - 1
      hostTimer := s.hostTimer - 1
      second := if s.second = SecondStage.taken then .notBegun else s.second }.withCauses
        (if s.hostTimer = 1 ∧ s.buttonTest = false then 0x80#8 else 0#8) := by
  rw [tickHostTest_eq]
  rfl

end

/-- Settles O54: a tick is `tick_eq`, and the rows of the expiries are the timers' last ticks. -/
theorem tickRunsTheTimers : Obligations.TickRunsTheTimers := by
  refine ⟨fun s => congrArg _ (tick_eq s), fun s => ⟨fun h => ?chimeLast, fun h => ?chimeIdle, fun h => ?testLast,
    fun h => ?testIdle⟩⟩
  case chimeLast =>
    refine congrArg _ ((if_pos h).trans ?_)
    simp [State.tickChime, h]
  case chimeIdle => exact congrArg _ (if_neg h)
  case testLast =>
    refine congrArg _ ((if_pos h).trans ?_)
    rw [tickHostTest_eq]
    cases hb : s.buttonTest <;> simp [h]
  case testIdle => exact congrArg _ (if_neg h)

theorem onOff?_eq_none {b : Byte} (h : 2 ≤ b.toNat) : onOff? b = none := by
  have h0 : b ≠ 0x00#8 := by bv_omega
  have h1 : b ≠ 0x01#8 := by bv_omega
  simp only [onOff?, h0, h1, if_false]

theorem onOff?_eq_some {b : Byte} (h : b.toNat < 2) : onOff? b = some (decide (b.toNat = 1)) := by
  obtain h0 | h1 : b.toNat = 0 ∨ b.toNat = 1 := by omega
  · obtain rfl : b = 0x00#8 := BitVec.eq_of_toNat_eq h0
    rfl
  · obtain rfl : b = 0x01#8 := BitVec.eq_of_toNat_eq h1
    rfl

section

variable {v : Byte} {s : State}

theorem exec_lampTest (v : Byte) (s : State) :
    exec (.lampTest v) s = hostCommand (.lampTest v) (State.hostLampTest v) s := rfl

theorem hostLampTest_badValue (h : 2 ≤ v.toNat) : s.hostLampTest v = refuse .badValue s := by
  simp only [State.hostLampTest, onOff?_eq_none h]

theorem hostLampTest_start (h : v.toNat = 1) : s.hostLampTest v = accept s.startHostTest [] := by
  have hv : onOff? v = some true := by rw [onOff?_eq_some (by omega), decide_eq_true h]
  simp only [State.hostLampTest, hv]

theorem hostLampTest_stop (h : v.toNat = 0) : s.hostLampTest v = accept s.stopHostTest [] := by
  have hv : onOff? v = some false := by rw [onOff?_eq_some (by omega), decide_eq_false (by omega)]
  simp only [State.hostLampTest, hv]

end

/-- Settles O44: the start, the stop of a running timer and the stop of a stopped one. -/
theorem lampTestStartsAndStops : Obligations.LampTestStartsAndStops := by
  intro v s hready
  rw [exec_lampTest]
  refine ⟨fun h => ?badValue, fun h => ?start, fun h hrun => ?stop, fun h hstopped => ?idle⟩
  case badValue => exact hostCommand_refused hready fun _ => hostLampTest_badValue h
  case start =>
    exact hostCommand_answered (s' := { s with
        hostTimer := 5000
        chimeTimer := if s.buttonTest = false ∧ s.hostTimer = 0 then 500 else s.chimeTimer }) (a := ⟨.ok, []⟩) hready
      fun l => by rw [hostLampTest_start h, startHostTest_eq]; rfl
  case stop =>
    exact hostCommand_answered (body := State.hostLampTest v)
      (s' := { s with hostTimer := 0 }.withCauses (if s.buttonTest then 0#8 else 0x80#8)) (a := ⟨.ok, []⟩) hready
      fun l => by rw [hostLampTest_stop h, stopHostTest_eq { s with link := l } hrun]; rfl
  case idle =>
    exact hostCommand_answered (s' := s) (a := ⟨.ok, []⟩) hready
      fun l => by rw [hostLampTest_stop h, stopHostTest_of_stopped { s with link := l } hstopped]; rfl

/-! ### Settings (R25, R144, R145) -/

section

variable {b : Byte} {s : State}

theorem setBrightness_badValue (h : b.toNat = 0 ∨ 16 < b.toNat) : s.setBrightness b = refuse .badValue s := by
  simp only [State.setBrightness, brightness?, if_neg (show ¬ (1 ≤ b.toNat ∧ b.toNat ≤ 16) by omega)]

theorem setBrightness_ok (hlo : 1 ≤ b.toNat) (hhi : b.toNat ≤ 16) :
    s.setBrightness b = accept { s with reqBrightness := b.toNat } [] := by
  simp only [State.setBrightness, brightness?, if_pos (And.intro hlo hhi)]

theorem setPanel_badValue (h : 2 ≤ b.toNat) : s.setPanel b = refuse .badValue s := by
  simp only [State.setPanel, onOff?_eq_none h]

theorem setPanel_ok (h : b.toNat < 2) :
    s.setPanel b = accept { s with panelEnabled := decide (b.toNat = 1) } [] := by
  simp only [State.setPanel, onOff?_eq_some h]

theorem setChatterLimit_badValue (h : b.toNat = 1 ∨ 15 < b.toNat) : s.setChatterLimit b = refuse .badValue s := by
  simp only [State.setChatterLimit, chatterLimit?, if_neg (show ¬ (b.toNat = 0 ∨ 2 ≤ b.toNat ∧ b.toNat ≤ 15) by omega)]

theorem setChatterLimit_ok (hne : b.toNat ≠ 1) (hhi : b.toNat ≤ 15) :
    s.setChatterLimit b = accept { s with chatterLimit := b.toNat } [] := by
  simp only [State.setChatterLimit, chatterLimit?, if_pos (show b.toNat = 0 ∨ 2 ≤ b.toNat ∧ b.toNat ≤ 15 by omega)]

end

/-- Settles O43: each setter takes its range of values and refuses the rest. -/
theorem settersTakeTheirValues : Obligations.SettersTakeTheirValues := by
  refine ⟨fun b s => ⟨fun hready h => ?brightnessBad, fun hready hlo hhi => ?brightness, rfl,
    fun hready h => ?panelBad, fun hready h => ?panel⟩, fun b s hready => ⟨fun h => ?limitBad, fun hne hhi => ?limit⟩⟩
  case brightnessBad => exact hostCommand_refused hready fun _ => setBrightness_badValue h
  case brightness =>
    exact hostCommand_answered (s' := { s with reqBrightness := b.toNat }) (a := ⟨.ok, []⟩) hready
      fun _ => setBrightness_ok hlo hhi
  case panelBad => exact hostCommand_refused hready fun _ => setPanel_badValue h
  case panel =>
    exact hostCommand_answered (s' := { s with panelEnabled := decide (b.toNat = 1) }) (a := ⟨.ok, []⟩) hready
      fun _ => setPanel_ok h
  case limitBad => exact hostCommand_refused hready fun _ => setChatterLimit_badValue h
  case limit =>
    exact hostCommand_answered (s' := { s with chatterLimit := b.toNat }) (a := ⟨.ok, []⟩) hready
      fun _ => setChatterLimit_ok hne hhi

/-! ### Class options (R124) -/

section

variable {cls options : Byte} {c : ClassNo} {s : State}

theorem classNo?_eq_none {b : Byte} (h : 4 ≤ b.toNat) : classNo? b = none :=
  dif_neg (Nat.not_lt.2 h)

theorem classNo?_eq_some {b : Byte} {c : ClassNo} (h : b.toNat = c.val) : classNo? b = some c := by
  simp only [classNo?, h, c.isLt, dite_true, Fin.eta]

theorem setClassOptions_noSuch (h : 4 ≤ cls.toNat) : s.setClassOptions cls options = refuse .noSuch s := by
  simp only [State.setClassOptions, classNo?_eq_none h]

theorem setClassOptions_badValue (hc : cls.toNat = c.val) (h : 4 ≤ options.toNat) :
    s.setClassOptions cls options = refuse .badValue s := by
  simp only [State.setClassOptions, classNo?_eq_some hc, classOptions?, if_neg (Nat.not_lt.2 h)]

theorem setClassOptions_ok (hc : cls.toNat = c.val) (h : options.toNat < 4) :
    s.setClassOptions cls options = accept { s with
      classOptions := s.classOptions.set c ⟨options.getLsbD 0, options.getLsbD 1⟩ }.refreshHorn [] := by
  simp only [State.setClassOptions, classNo?_eq_some hc, classOptions?, if_pos h]

end

/-- Settles O33: HORN goes to the level that the flags as they stand give it under the new enables. -/
theorem setClassOptionsGovernsTheHorn : Obligations.SetClassOptionsGovernsTheHorn := by
  intro cls options s hready
  refine ⟨fun h => ?noSuch, fun hcls h => ?badValue, fun c hc h => ?ok⟩
  case noSuch => exact hostCommand_refused hready fun _ => setClassOptions_noSuch h
  case badValue => exact hostCommand_refused hready fun _ => setClassOptions_badValue (c := ⟨cls.toNat, hcls⟩) rfl h
  case ok =>
    intro enables
    exact hostCommand_answered (body := State.setClassOptions cls options)
      (s' := { s with classOptions := enables }.refreshHorn) (a := ⟨.ok, []⟩) hready fun _ => setClassOptions_ok hc h

/-! ### The list unit's cursor and mark (R90 to R98) -/

section

variable {point : Byte} {p : PointNo} {s : State}

theorem listSeek_noSuch (h : 48 ≤ point.toNat) : s.listSeek point = refuse .noSuch s := by
  simp only [State.listSeek, pointNo?_eq_none h]

theorem listSeek_notListed (hp : point.toNat = p.val) (h : p ∉ s.standing) :
    s.listSeek point = refuse .notListed s := by
  simp only [State.listSeek, pointNo?_eq_some hp, if_neg (mt (mem_standing_iff_isListed s p).2 h)]

theorem listSeek_ok (hp : point.toNat = p.val) (h : p ∈ s.standing) :
    s.listSeek point = accept { s with cursor := some p } [] := by
  simp only [State.listSeek, pointNo?_eq_some hp, if_pos ((mem_standing_iff_isListed s p).1 h)]

theorem listMark_eq : s.listMark = accept { s with mark := s.cursor.elim .atEnd .entry } [] := by
  unfold State.listMark
  cases s.cursor <;> rfl

end

/-- Settles O34: LIST SEEK's outcomes are those of `State.listSeek`. -/
theorem listTopAndSeekPlaceTheCursor : Obligations.ListTopAndSeekPlaceTheCursor := by
  intro point s hready
  refine ⟨?top, fun h => ?noSuch, fun p hp h => ?notListed, fun p hp h => ?ok⟩
  case top =>
    exact hostCommand_answered (s' := { s with cursor := s.standing.head? }) (a := ⟨.ok, []⟩) hready fun _ => rfl
  case noSuch => exact hostCommand_refused hready fun _ => listSeek_noSuch h
  case notListed => exact hostCommand_refused hready fun _ => listSeek_notListed hp h
  case ok =>
    exact hostCommand_answered (s' := { s with cursor := some p }) (a := ⟨.ok, []⟩) hready fun _ => listSeek_ok hp h

/-- Settles O36: one clause for each value of the cursor and of the mark. -/
theorem listMarkAndReturn : Obligations.ListMarkAndReturn := by
  intro s hready
  have hmark : exec .listMark s = .next { s with
      mark := s.cursor.elim .atEnd .entry, link := s.answered .listMark .ok [] } :=
    hostCommand_answered (body := State.listMark) (s' := { s with mark := s.cursor.elim .atEnd .entry })
      (a := ⟨.ok, []⟩) hready fun _ => listMark_eq
  have hreturn {s' : State} {a : Answer} (h : ∀ l : Link, { s with link := l }.listReturn = ({ s' with link := l }, a)) :
      exec .listReturn s = .next { s' with link := s.answered .listReturn a.result a.data } :=
    hostCommand_answered hready h
  refine ⟨fun p h => ?entry, fun h => ?atEnd, fun p h => ?toEntry, fun h => ?toEnd, fun h => ?lost, fun h => ?noMark⟩
  case entry => rw [hmark, h]; rfl
  case atEnd => rw [hmark, h]; rfl
  case toEntry => exact hreturn (s' := { s with cursor := some p }) fun l => by simp only [State.listReturn, h]; rfl
  case toEnd => exact hreturn (s' := { s with cursor := none }) fun l => by simp only [State.listReturn, h]; rfl
  case lost =>
    exact hreturn (s' := { s with cursor := s.standing.head?, mark := .none }) (a := ⟨.markLost, []⟩)
      fun l => by simp only [State.listReturn, h]
  case noMark => exact hreturn (s' := s) (a := ⟨.noMark, []⟩) fun l => by simp only [State.listReturn, h]; rfl

/-! ### The banks (R135) -/

theorem carryOutSwap_eq (s : State) : s.carryOutSwap =
    { s with live := if s.swapPending then s.live.other else s.live, swapPending := false }.withCauses
      (if s.swapPending then 0x40#8 else 0#8) := by
  unfold State.carryOutSwap
  by_cases h : s.swapPending = true
  · rw [if_pos h, if_pos h, if_pos h, setCause_eq_withCauses]
    rfl
  · have hfalse : s.swapPending = false := by simpa using h
    rw [if_neg h, if_neg h, if_neg h, withCauses_zero, ← hfalse]

/-- Settles O42: SWAP BANKS by the flag as it stands, and the exchange of the roles. -/
theorem swapBanksAndSwap : Obligations.SwapBanksAndSwap := by
  intro s
  refine ⟨fun hready h => ?busy, fun hready h => ?asked, fun h => ?carriedOut, fun h => ?idle⟩
  case busy => exact hostCommand_refused hready fun _ => if_pos h
  case asked =>
    exact hostCommand_answered (s' := { s with swapPending := true }) (a := ⟨.ok, []⟩) hready
      fun _ => if_neg (by simp [h])
  case carriedOut => exact congrArg _ ((carryOutSwap_eq s).trans (by simp only [h, if_true]))
  case idle => exact congrArg _ (if_neg (by simp [h]))

/-- Settles O60: the reset state is written out, and nothing of the state before it but the queue and the free value's count
is read. -/
theorem hardResetSetsEveryUnit : Obligations.HardResetSetsEveryUnit := fun _ _ => rfl

/-! ### The frame start (R138, R153) -/

section

variable (s : State)

/-- The phase and the frame count at a frame start: they stand at the first one after a hard reset, and where the phase was
moved ahead of it. -/
theorem movePhase_eq : s.movePhase = { s with
    phase := if s.frame ≠ none ∧ s.phaseAhead = false ∧ s.frameCount = 15 then s.phase + 1 else s.phase
    frameCount := if s.frame = none ∨ s.phaseAhead = true then s.frameCount else s.frameCount + 1
    phaseAhead := if s.frame = none then s.phaseAhead else false } := by
  unfold State.movePhase
  by_cases hframe : s.frame = none
  · rw [if_pos hframe, if_neg fun h => h.1 hframe, if_pos (.inl hframe), if_pos hframe]
  · rw [if_neg hframe, if_neg hframe]
    by_cases hahead : s.phaseAhead = true
    · simp [hframe, hahead]
    · have hfalse : s.phaseAhead = false := by simpa using hahead
      rw [if_neg hahead, if_neg (c := s.frame = none ∨ s.phaseAhead = true) (by simp [hframe, hahead]), ← hfalse]
      by_cases hcount : s.frameCount = 15
      · rw [if_pos hcount, if_pos ⟨hframe, rfl, hcount⟩, hcount]
        rfl
      · rw [if_neg hcount, if_neg fun h => hcount h.2.2]

/-- Steps 1 to 3 of a frame start. -/
def State.frameBegun (s : State) : State :=
  { s with
    brightness := s.reqBrightness
    live := if s.swapPending then s.live.other else s.live
    swapPending := false
    phase := if s.frame ≠ none ∧ s.phaseAhead = false ∧ s.frameCount = 15 then s.phase + 1 else s.phase
    frameCount := if s.frame = none ∨ s.phaseAhead = true then s.frameCount else s.frameCount + 1
    phaseAhead := if s.frame = none then s.phaseAhead else false }.withCauses
      (if s.swapPending then 0x40#8 else 0#8)

theorem startFrame_eq : s.startFrame = { s.frameBegun with frame := some s.frameBegun.frameImage } := by
  unfold State.startFrame State.composeFrame
  rw [movePhase_eq, carryOutSwap_eq]
  rfl

theorem advanceAhead_of_sixteenth (hframe : s.frame ≠ none) (hcount : s.frameCount = 15) (hahead : s.phaseAhead = false) :
    s.advanceAhead = { s with phase := s.phase + 1, frameCount := 0, phaseAhead := true } :=
  if_pos ⟨hframe, hcount, hahead⟩

theorem advanceAhead_of_not (h : s.frame = none ∨ s.frameCount ≠ 15 ∨ s.phaseAhead = true) : s.advanceAhead = s := by
  refine if_neg fun ⟨hframe, hcount, hahead⟩ => ?_
  rcases h with h | h | h
  · exact hframe h
  · exact h hcount
  · simp [hahead] at h

end

/-- Settles O46: the four steps are `startFrame_eq`. -/
theorem frameStartTakesItsFourSteps : Obligations.FrameStartTakesItsFourSteps := by
  refine ⟨fun s => ⟨s.frameBegun.frameImage, congrArg _ (startFrame_eq s), rfl, ?_⟩, fun s =>
    ⟨fun hframe hcount hahead => congrArg _ (advanceAhead_of_sixteenth s hframe hcount hahead),
      fun h => congrArg _ (advanceAhead_of_not s h)⟩⟩
  exact (Bool.or_eq_true_iff).trans (or_congr Iff.rfl lampTestOn_iff)

/-! ### What a frame shows (R140 to R143, R146) -/

section

variable (s : State)

/-- The MAIN element, by state and phase. -/
theorem mainPattern_litIn (st : AnnState) (phase : Fin 8) : st.mainPattern.litIn phase = st.mainLit phase.val := by
  revert phase
  cases st <;> decide

/-- The TAG element of an in-service point, by the precedence of R142. -/
theorem tagPattern_litIn (p : PointNo) (phase : Fin 8) : (s.tagPattern p).litIn phase = s.tagLit p phase.val := by
  unfold State.tagPattern State.tagLit
  dsimp only
  by_cases hheld : (s.groupRec (s.point p).group).firstOut = .held p
  · have hfirst : s.isFirstOut p = true := beq_iff_eq.2 hheld
    rw [if_pos hfirst, if_pos hheld]
    generalize (s.point p).state = st
    revert phase
    cases st <;> decide
  · have hfirst : ¬ s.isFirstOut p = true := fun h => hheld (beq_iff_eq.1 h)
    rw [if_neg hfirst, if_neg hheld]
    by_cases hshelf : (s.point p).shelf = none
    · cases hlock : (s.point p).lockout <;> simp [hshelf, Pattern.litIn]
    · simp [hshelf, Option.isSome_iff_ne_none, Pattern.litIn]

/-- The fold of R77's ranking ends on a state that some listed member has, or the one it began with, and none ranks
higher. -/
theorem foldl_rank (g : GroupNo) (l : List PointNo) (best : AnnState) :
    let r := l.foldl (fun best q =>
      if (s.point q).group = g ∧ best.rank < (s.point q).state.rank then (s.point q).state else best) best
    (r = best ∨ ∃ q ∈ l, (s.point q).group = g ∧ (s.point q).state = r) ∧ best.rank ≤ r.rank ∧
      ∀ q ∈ l, (s.point q).group = g → (s.point q).state.rank ≤ r.rank := by
  induction l generalizing best with
  | nil => simp
  | cons a l ih =>
    obtain ⟨hfrom, hge, hmax⟩ := ih
      (if (s.point a).group = g ∧ best.rank < (s.point a).state.rank then (s.point a).state else best)
    dsimp only [List.foldl_cons]
    split_ifs at hfrom hge hmax ⊢ with h
    · refine ⟨.inr ?_, h.2.le.trans hge, ?_⟩
      · rcases hfrom with hr | ⟨q, hq, hgroup, hst⟩
        · exact ⟨a, List.mem_cons_self, h.1, hr.symm⟩
        · exact ⟨q, List.mem_cons_of_mem _ hq, hgroup, hst⟩
      · intro q hq hgroup
        rcases List.mem_cons.1 hq with rfl | hq
        · exact hge
        · exact hmax q hq hgroup
    · refine ⟨?_, hge, ?_⟩
      · rcases hfrom with hr | ⟨q, hq, hgroup, hst⟩
        · exact .inl hr
        · exact .inr ⟨q, List.mem_cons_of_mem _ hq, hgroup, hst⟩
      · intro q hq hgroup
        rcases List.mem_cons.1 hq with rfl | hq
        · exact (Nat.le_of_not_lt fun hlt => h ⟨hgroup, hlt⟩).trans hge
        · exact hmax q hq hgroup

theorem someListed_iff {s : State} {g : GroupNo} {st : AnnState} : s.someListed g st = true ↔
    ∃ q ∈ s.standing, (s.point q).group = g ∧ (s.point q).state = st := by
  simp [State.someListed]

/-- The summary of a group, by its ranking (R77). -/
theorem groupSummary_eq_summaryOf (g : GroupNo) : s.groupSummary g = s.summaryOf g := by
  obtain ⟨hfrom, -, hmax⟩ := foldl_rank s g s.standing .quiet
  change (s.groupSummary g = .quiet ∨ _) at hfrom
  change ∀ q ∈ s.standing, _ → _ ≤ (s.groupSummary g).rank at hmax
  have hlisted : s.groupSummary g = .quiet ∨ s.someListed g (s.groupSummary g) = true :=
    hfrom.imp_right someListed_iff.2
  have hnone (st : AnnState) (h : (s.groupSummary g).rank < st.rank) : s.someListed g st = false := by
    rw [Bool.eq_false_iff, Ne, someListed_iff]
    rintro ⟨q, hq, hgroup, rfl⟩
    exact absurd (hmax q hq hgroup) (Nat.not_le.2 h)
  unfold State.summaryOf
  cases hr : s.groupSummary g <;> rw [hr] at hnone hlisted <;>
    simp [AnnState.rank] at hlisted hnone <;> simp [*]

/-- With no lamp test in force a window shows its entry of the live bank (R141 to R143). -/
theorem windowElements_eq (h : ¬ s.lampTestOn = true) (w : WindowNo) :
    s.windowElements w = s.shownFor s.liveBank[w] s.phase.val := by
  unfold State.windowElements
  rw [if_neg h]
  cases s.liveBank[w] with
  | unbound => rfl
  | point p =>
    simp only [State.entryPatterns, State.pointPatterns, State.shownFor]
    cases (s.point p).inService
    · rfl
    · by_cases hshelf : (s.point p).shelf = none
      · simp [hshelf, mainPattern_litIn, tagPattern_litIn]
      · simp [hshelf, Option.isSome_iff_ne_none, Pattern.litIn]
  | group g =>
    have hany : (allPoints.any fun p => (s.point p).group == g && (s.point p).shelf.isSome) =
        (List.finRange 48).any fun p => decide ((s.point p).group = g ∧ (s.point p).shelf ≠ none) := by
      refine congrArg (List.any _) (funext fun p => ?_)
      cases (s.point p).shelf <;> by_cases hg : (s.point p).group = g <;> simp [hg]
    simp only [State.entryPatterns, State.groupPatterns, State.shownFor, mainPattern_litIn, groupSummary_eq_summaryOf,
      hany]
    cases (List.finRange 48).any fun p => decide ((s.point p).group = g ∧ (s.point p).shelf ≠ none) <;> rfl

theorem frameImage_window (w : WindowNo) : s.frameImage.windows[w] = s.windowElements w := by
  simp [State.frameImage]

theorem liveBank_entry (w : WindowNo) : s.liveBank[w] = if s.live = .a then s.bankA[w] else s.bankB[w] := by
  unfold State.liveBank
  cases s.live <;> rfl

end

/-- Settles O47: the image is composed after steps 1 to 3, which leave points, list and groups as they stand. -/
theorem frameShowsTheLiveBank : Obligations.FrameShowsTheLiveBank := by
  intro s t img w hexec himg
  have ht : t = { s.frameBegun with frame := some s.frameBegun.frameImage } :=
    (Host.Outcome.next.inj hexec).symm.trans (startFrame_eq s)
  subst ht
  obtain rfl := Option.some.inj himg
  rw [frameImage_window]
  have htest : s.frameBegun.lampTestOn = s.lampTestOn := rfl
  refine ⟨fun h => ?lampTest, fun hbutton htimer => ?shown⟩
  case lampTest =>
    have hon : s.frameBegun.lampTestOn = true := htest.trans (lampTestOn_iff.2 h)
    exact if_pos hon
  case shown =>
    have hoff : ¬ s.frameBegun.lampTestOn = true := htest ▸ not_lampTestOn_iff.2 ⟨hbutton, htimer⟩
    rw [windowElements_eq _ hoff, liveBank_entry]
    rfl

/-! ### The drives (R130, R139) -/

section

variable {img : FrameImage} {s : State}

/-- The element of window `w` stands in row `w div 6`, MAIN in the even one of its two columns (R130). -/
theorem lit_window {r : Fin 8} {c : Fin 12} {w : WindowNo} (hr : r.val = w.val / 6) (hc : c.val / 2 = w.val % 6) :
    img.lit r c = if c.val % 2 = 0 then img.windows[w].main else img.windows[w].tag := by
  have hw : 6 * r.val + c.val / 2 = w.val := by omega
  simp only [FrameImage.lit, hw]
  rfl

theorem columnDrive_active (hframe : s.frame = some img) (hactive : img.active = true) (c : Fin 12) (t : Fin 1024) :
    s.columnDrive c t = true ↔
      img.lit ⟨s.tickCount.val % 8, Nat.mod_lt _ (by decide)⟩ c = true ∧ t.val < 64 * img.brightness := by
  simp [State.columnDrive, hframe, hactive, Nat.mul_comm]

end

/-- Settles O48: the drives by the frame's image, and the place of each window's elements by `lit_window`. -/
theorem drivesScanTheFrame : Obligations.DrivesScanTheFrame := by
  intro s r c period
  refine ⟨fun hframe => ?noFrame, fun img hframe => ⟨fun hactive => ?inactive, fun hactive => ?row,
    fun w hactive hslot => ⟨fun hc => ?main, fun hc => ?tag⟩⟩⟩
  case noFrame => simp [State.rowDrive, State.columnDrive, hframe]
  case inactive => simp [State.rowDrive, State.columnDrive, hframe, hactive]
  case row => simp [State.rowDrive, hframe, hactive]
  case main =>
    rw [columnDrive_active hframe hactive, lit_window hslot (by omega), if_pos (by omega)]
  case tag =>
    rw [columnDrive_active hframe hactive, lit_window hslot (by omega), if_neg (by omega)]

end Sys2Proof.Machine
end

section
/-!
The state right after a hard reset, and the commands that read a record: READ POINT, READ GROUP, READ ENTRY and READ UPTIME
(R6, R19, R78, R92, R155, E.4 to E.8).
-/

namespace Sys2Proof.Machine

/-! ### The state at reset (R6, R36, R79, R101, R116, R128, R150, R156, R161, R169) -/

theorem point_reset (p : PointNo) : State.reset.point p = PointRec.reset := by
  simp [State.point, State.reset]

theorem groupRec_reset (g : GroupNo) : State.reset.groupRec g = ⟨false, .off⟩ := by
  simp [State.groupRec, State.reset]

theorem slot_reset (k : SlotNo) : State.reset.slot k = none := by
  simp [State.slot, State.reset]

theorem reset_recordLaws : State.reset.RecordLaws := by
  refine ⟨fun p => ?_, fun p => ?_, fun p => ?_, fun p => ?_, fun p => ?_⟩ <;> rw [point_reset] <;> decide

/-- The laws of the annunciation hold with the empty list, every point out of service, and no group taking part. -/
theorem reset_annunciationLaws : State.reset.AnnunciationLaws := by
  have hstanding : State.reset.standing = [] := rfl
  refine ⟨reset_recordLaws, ⟨fun p => ?listed, ?nodup⟩, ?order, ⟨?cursor, ?mark⟩, fun p => ?times, fun p q hp => ?lines,
    ⟨fun k r hk => ?slots, fun p k hp => ?shelved⟩, fun g => ?groups, Nat.zero_le _⟩
  case listed => simp [hstanding, point_reset, PointRec.reset]
  case nodup => exact List.nodup_nil
  case order => exact List.Pairwise.nil
  case cursor => exact fun p h => nomatch h
  case mark => exact fun p h => nomatch h
  case times => simp [hstanding, point_reset, PointRec.reset]
  case lines => simp [point_reset, PointRec.reset] at hp
  case slots => simp [slot_reset] at hk
  case shelved => simp [point_reset, PointRec.reset] at hp
  case groups => simp [groupRec_reset]

/-- Settles O3: each law by the values of the fields it speaks of. -/
theorem everyLawHoldsAtReset : Obligations.EveryLawHoldsAtReset := by
  refine ⟨reset_annunciationLaws, ?horn, ?attn, ?button, ?range, ?link⟩
  case horn =>
    have hhorn : ¬ State.reset.horn = true := Bool.false_ne_true
    refine ⟨fun h => absurd h hhorn, fun ⟨p, hp, _⟩ => ?_⟩
    simp [point_reset, PointRec.reset] at hp
  case attn => decide
  case button => decide
  case range => decide
  case link => exact ⟨fun h => (nomatch h), fun h => (nomatch h), fun _ => ⟨rfl, rfl, rfl⟩⟩

/-! ### Bytes made of fields (E.4, E.7) -/

theorem numberOf_bytes4 {n : Nat} (h : n < 4294967296) : numberOf (bytes4 n) = n := by
  have hhigh : n / 16777216 < 256 := by omega
  simp only [numberOf, bytes4, List.foldl_cons, List.foldl_nil, toNat_byte hhigh]
  simp only [byte, BitVec.toNat_ofNat]
  omega

/-- A time that is absent or within the uptime's range reads back (R4, R172). -/
theorem numberOf_timeBytes {t : Option Nat} (h : ∀ n, t = some n → n ≤ 0xFFFFFFFE) :
    numberOf (timeBytes t) = t.getD 0xFFFFFFFF := by
  cases t with
  | none => exact numberOf_bytes4 (by decide)
  | some n => exact numberOf_bytes4 (by have := h n rfl; simp only [Option.getD_some]; omega)

theorem toNat_sourceByte (src : Source) : src.byte.toNat = src.byteValue := by
  cases src with
  | line k => exact toNat_byte (by omega)
  | host => rfl

/-- The fields of an options byte of a point, as a number. -/
theorem toNat_optionFields : ∀ (pol : Bool) (t : Fin 3) (c : ClassNo) (g : GroupNo),
    (BitVec.ofBool pol ++ BitVec.ofNat 2 t.val ++ BitVec.ofNat 2 c.val ++ BitVec.ofNat 3 g.val).toNat =
      (if pol then 128 else 0) + 32 * t.val + 8 * c.val + g.val := by
  decide

theorem toNat_optionsByte (c : PointConfig) : c.optionsByte.toNat = c.optionsValue := by
  have hcode : c.seqType.code < 3 := by cases c.seqType <;> decide
  refine (toNat_optionFields _ ⟨c.seqType.code, hcode⟩ c.cls c.group).trans ?_
  simp [PointConfig.optionsValue]

/-- The flags, the group and the class of an entry's byte 2 (E.7). -/
theorem entryFlags : ∀ (first lockout : Bool) (g : GroupNo) (c : ClassNo),
    let b : Byte :=
      BitVec.ofBool first ++ BitVec.ofBool lockout ++ 0#1 ++ BitVec.ofNat 3 g.val ++ BitVec.ofNat 2 c.val
    b.getLsbD 7 = first ∧ b.getLsbD 6 = lockout ∧ b.getLsbD 5 = false ∧ b.toNat / 4 % 8 = g.val ∧
      b.toNat % 4 = c.val := by
  decide

theorem annState_code_lt (st : AnnState) : st.code < 256 := by cases st <;> decide

theorem isFirstOut_iff {s : State} {p : PointNo} :
    s.isFirstOut p = true ↔ (s.groupRec (s.point p).group).firstOut = .held p := beq_iff_eq

/-! ### READ POINT (R19, E.6) -/

section

variable {point : Byte} {p : PointNo} {s : State}

theorem readPoint_noSuch (h : 48 ≤ point.toNat) : s.readPoint point = refuse .noSuch s := by
  simp only [State.readPoint, pointNo?_eq_none h]

theorem readPoint_ok (hp : point.toNat = p.val) : s.readPoint point = accept s (s.pointData p) := by
  simp only [State.readPoint, pointNo?_eq_some hp]

/-- The flags of byte 4, in ascending order (E.6). -/
theorem pointData_flag (s : State) (p : PointNo) (i : Fin 8) : ((s.pointData p).getD 4 0).getLsbD i.val =
    ![s.isFirstOut p, s.isListed p, (s.point p).shelf.isSome, (s.point p).lockout, (s.point p).sounding,
      (s.point p).eff == .offNormal, (s.point p).line == .offNormal, (s.point p).inService] i :=
  getLsbD_bits8 _ _ _ _ _ _ _ _ i

end

/-- Settles O24: the sixteen bytes are those of `State.pointData`, each field within its byte by the laws of the records
and of the times. -/
theorem readPointReturnsTheRecord : Obligations.ReadPointReturnsTheRecord := by
  intro point s hready
  refine ⟨fun h => hostCommand_refused hready fun _ => readPoint_noSuch h, fun p hp hlaws => ?_⟩
  obtain ⟨⟨-, -, -, -, hrange⟩, -, -, -, htimes, -, -, -, huptime⟩ := hlaws
  obtain ⟨-, hdebounce, -, hchatter, hrepeat⟩ := hrange p
  obtain ⟨-, hentry, hchange⟩ := htimes p
  have hslot : ((s.point p).shelf.getD 0).val < 8 := Fin.isLt _
  have hcode : (s.point p).state.code ≤ 4 := by cases (s.point p).state <;> decide
  have flag (i : Fin 8) := Bool.eq_iff_iff.1 (pointData_flag s p i)
  refine ⟨s.pointData p,
    hostCommand_answered (s' := s) (a := ⟨.ok, s.pointData p⟩) hready fun _ => readPoint_ok hp, rfl,
    toNat_byte (by omega), toNat_sourceByte _, toNat_optionsByte _, toNat_byte (by omega), pointData_flag s p 7,
    (flag 6).trans beq_iff_eq, (flag 5).trans beq_iff_eq, pointData_flag s p 4, pointData_flag s p 3,
    (flag 2).trans Option.isSome_iff_ne_none, (flag 1).trans (mem_standing_iff_isListed s p).symm,
    (flag 0).trans isFirstOut_iff, ?slot, toNat_byte (by omega), toNat_byte (by omega), ?entryTime, ?lastChange⟩
  case slot =>
    have h : (byte (((s.point p).shelf.getD 0).val * 16 + (s.point p).state.code)).toNat = _ := toNat_byte (by omega)
    exact h.trans (by omega)
  case entryTime => exact numberOf_timeBytes fun n h => (hentry n h).trans huptime
  case lastChange => exact numberOf_timeBytes fun n h => (hchange n h).trans huptime

/-! ### READ GROUP (R78, E.8) -/

section

variable {group : Byte} {g : GroupNo} {s : State}

theorem readGroup_noSuch (h : 8 ≤ group.toNat) : s.readGroup group = refuse .noSuch s := by
  simp only [State.readGroup, groupNo?_eq_none h]

theorem readGroup_ok (hg : group.toNat = g.val) : s.readGroup group = accept s (s.groupData g) := by
  simp only [State.readGroup, groupNo?_eq_some hg]

/-- A count of members, which are 48 at most, fits its byte. -/
theorem toNat_byte_countMembers (s : State) (g : GroupNo) (f : PointNo → Bool) :
    (byte (s.countMembers g f)).toNat = (List.finRange 48).countP fun p => decide ((s.point p).group = g ∧ f p = true) := by
  have hlen : s.countMembers g f ≤ 48 := List.countP_le_length.trans (by simp [allPoints])
  have heq : (fun p => (s.point p).group == g && f p) = fun p => decide ((s.point p).group = g ∧ f p = true) := by
    funext p
    by_cases hgroup : (s.point p).group = g <;> simp [hgroup]
  rw [toNat_byte (by omega), State.countMembers, heq, allPoints]

end

/-- Settles O32: the seven bytes are those of `State.groupData`. -/
theorem readGroupReturnsTheRecord : Obligations.ReadGroupReturnsTheRecord := by
  intro group s hready
  refine ⟨fun h => hostCommand_refused hready fun _ => readGroup_noSuch h, fun g hg => ⟨s.groupData g,
    hostCommand_answered (s' := s) (a := ⟨.ok, s.groupData g⟩) hready fun _ => readGroup_ok hg, rfl, ?option, ?firstOut,
    ?held, ?inService, ?listed, ?shelved, ?summary⟩⟩
  case option =>
    change (byte (s.groupRec g).option.toNat).toNat = _
    cases (s.groupRec g).option <;> rfl
  case firstOut =>
    change (byte (s.groupRec g).firstOut.code).toNat = _
    cases (s.groupRec g).firstOut <;> rfl
  case held =>
    change (pointByte (s.groupRec g).firstOut.point?).toNat = _
    cases (s.groupRec g).firstOut with
    | held p => exact toNat_byte (by omega)
    | off | armed | spent => rfl
  case inService => exact toNat_byte_countMembers s g _
  case listed =>
    refine (toNat_byte_countMembers s g _).trans ?_
    simp only [mem_standing_iff_isListed]
  case shelved =>
    refine (toNat_byte_countMembers s g _).trans ?_
    simp only [Option.isSome_iff_ne_none]
  case summary =>
    rw [← groupSummary_eq_summaryOf]
    exact toNat_byte (annState_code_lt _)

/-! ### READ ENTRY (R92, R93, E.7) -/

section

variable {p : PointNo} {s : State}

theorem readEntry_listEnd (h : s.cursor = none) : s.readEntry = (s, ⟨.listEnd, []⟩) := by
  simp only [State.readEntry, h]

theorem readEntry_entry (h : s.cursor = some p) :
    s.readEntry = accept { s with cursor := entryAfter p s.standing } (s.entryData p) := by
  simp only [State.readEntry, h, successor_eq_entryAfter]

end

/-- Settles O35: the ten bytes are those of `State.entryData`; an entry under the cursor is on the list, so its state is not
QUIET and its entry time is present. -/
theorem readEntryReturnsAndSteps : Obligations.ReadEntryReturnsAndSteps := by
  intro s hready
  refine ⟨fun h => ?listEnd, fun p h hlaws => ?entry⟩
  case listEnd =>
    exact hostCommand_answered (s' := s) (a := ⟨.listEnd, []⟩) hready fun l => readEntry_listEnd (s := { s with link := l }) h
  case entry =>
    have hmem : p ∈ s.standing := by
      obtain ⟨-, -, -, ⟨hcursor, -⟩, -⟩ := hlaws
      exact hcursor p h
    have hquiet : (s.point p).state ≠ .quiet := (mem_standing_iff_not_quiet hlaws p).1 hmem
    obtain ⟨⟨-, -, -, -, hrange⟩, -, -, -, htimes, -, -, -, huptime⟩ := hlaws
    obtain ⟨-, -, -, -, hrepeat⟩ := hrange p
    obtain ⟨hpresent, hentry, -⟩ := htimes p
    obtain ⟨n, hn⟩ := Option.isSome_iff_exists.1 (hpresent.2 hmem)
    have hcode : (byte (s.point p).state.code).toNat = (s.point p).state.code := toNat_byte (annState_code_lt _)
    obtain ⟨hfirst, hlockout, hunused, hgroup, hcls⟩ :=
      entryFlags (s.isFirstOut p) (s.point p).lockout (s.point p).group (s.point p).cls
    refine ⟨s.entryData p,
      hostCommand_answered (s' := { s with cursor := entryAfter p s.standing }) (a := ⟨.ok, s.entryData p⟩) hready
        fun l => readEntry_entry (s := { s with link := l }) h, rfl,
      toNat_byte (by omega), hcode, ?notQuiet, (Bool.eq_iff_iff.1 hfirst).trans isFirstOut_iff, hlockout, hunused, hgroup,
      hcls, toNat_byte (by omega), ?entryTime, numberOf_bytes2 s.lgen.isLt⟩
    case notQuiet =>
      change (byte (s.point p).state.code).toNat ≠ 0
      rw [hcode]
      cases hst : (s.point p).state <;> simp_all [AnnState.code]
    case entryTime =>
      have hle := (hentry n hn).trans huptime
      have hbytes : numberOf (timeBytes (s.point p).entryTime) = n := by
        rw [numberOf_timeBytes fun m hm => (hentry m hm).trans huptime, hn]
        rfl
      exact (congrArg some hbytes).trans hn.symm

end Sys2Proof.Machine
end

section
/-!
What the acts of the annunciation leave of the rest of the device, and the levels they keep: ATTNn (R160), the chime (R126)
and the host test timer (R147). One lemma for each operation, then one for each act.
-/

namespace Sys2Proof.Machine

/-- The levels that every operation of the units keeps where they hold. -/
structure KeepsLevels (s t : State) : Prop where
  attn : s.AttnLaw → t.AttnLaw
  chime : s.chimeTimer ≤ 500 → t.chimeTimer ≤ 500
  hostTimer : t.hostTimer ≤ s.hostTimer

/-- `t` differs from `s` in the fields of points, list, groups, shelf, class options and levels, and in no other. -/
def AnnFrame (s t : State) : Prop :=
  t = { s with
    points := t.points, standing := t.standing, lgen := t.lgen, cursor := t.cursor, mark := t.mark, groups := t.groups,
    slots := t.slots, classOptions := t.classOptions, horn := t.horn, chimeTimer := t.chimeTimer, causes := t.causes,
    attn := t.attn, hostTimer := t.hostTimer, second := t.second }

theorem KeepsLevels.trans {s t u : State} (h₁ : KeepsLevels s t) (h₂ : KeepsLevels t u) : KeepsLevels s u where
  attn h := h₂.attn (h₁.attn h)
  chime h := h₂.chime (h₁.chime h)
  hostTimer := h₂.hostTimer.trans h₁.hostTimer

theorem AnnFrame.trans {s t u : State} (h₁ : AnnFrame s t) (h₂ : AnnFrame t u) : AnnFrame s u := by
  unfold AnnFrame at *
  rw [h₂, h₁]

/-- An operation of the annunciation leaves the rest of the device, keeps the levels, and clears no cause. -/
structure UnitFrame (s t : State) : Prop extends KeepsLevels s t where
  frame : AnnFrame s t
  causes : ∀ i, s.causes.getLsbD i = true → t.causes.getLsbD i = true

namespace UnitFrame

theorem refl (s : State) : UnitFrame s s := ⟨⟨id, id, le_rfl⟩, rfl, fun _ => id⟩

theorem trans {s t u : State} (h₁ : UnitFrame s t) (h₂ : UnitFrame t u) : UnitFrame s u :=
  ⟨h₁.toKeepsLevels.trans h₂.toKeepsLevels, h₁.frame.trans h₂.frame, fun i h => h₂.causes i (h₁.causes i h)⟩

theorem foldl {α : Type} {f : State → α → State} (hf : ∀ s a, UnitFrame s (f s a)) (l : List α) (s : State) :
    UnitFrame s (l.foldl f s) :=
  List.foldlRecOn l f (motive := UnitFrame s) (refl s) fun u hu a _ => hu.trans (hf u a)

/-- A write that leaves the levels and what they are judged by. -/
theorem of_eq {s t : State} (frame : AnnFrame s t) (causes : t.causes = s.causes) (attn : t.attn = s.attn)
    (chime : t.chimeTimer = s.chimeTimer) (hostTimer : t.hostTimer = s.hostTimer) : UnitFrame s t where
  attn h := by
    have henables : t.enables = s.enables := by rw [frame]
    unfold State.AttnLaw
    rwa [attn, causes, henables]
  chime h := chime ▸ h
  hostTimer := hostTimer.le
  frame := frame
  causes i h := causes ▸ h

/-- A write that sets causes, by R157 and R160. -/
theorem of_setCause {s t : State} {c : Cause} (frame : AnnFrame s t) (causes : t.causes = s.causes ||| c.bit)
    (attn : t.attn = t.attnLevel) (chime : t.chimeTimer = s.chimeTimer) (hostTimer : t.hostTimer = s.hostTimer) :
    UnitFrame s t where
  attn _ := by rw [State.AttnLaw, attn, attnLevel_iff]
  chime h := chime ▸ h
  hostTimer := hostTimer.le
  frame := frame
  causes i h := by simp [causes, h]

end UnitFrame

section

variable (s : State)

/-! ### One unit's act -/

theorem setPoint_unitFrame (p : PointNo) (r : PointRec) : UnitFrame s (s.setPoint p r) := .of_eq rfl rfl rfl rfl rfl
theorem setGroup_unitFrame (g : GroupNo) (r : GroupRec) : UnitFrame s (s.setGroup g r) := .of_eq rfl rfl rfl rfl rfl
theorem setSlot_unitFrame (k : SlotNo) (r : Option SlotRec) : UnitFrame s (s.setSlot k r) := .of_eq rfl rfl rfl rfl rfl
theorem refreshHorn_unitFrame : UnitFrame s s.refreshHorn := .of_eq rfl rfl rfl rfl rfl
theorem groupNotice_unitFrame (n : Notice) (q : PointNo) : UnitFrame s (s.groupNotice n q) := .of_eq rfl rfl rfl rfl rfl
theorem setCause_unitFrame (c : Cause) : UnitFrame s (s.setCause c) := .of_setCause rfl rfl rfl rfl rfl

theorem pointChime_unitFrame (p : PointNo) : UnitFrame s (s.pointChime p) := by
  unfold State.pointChime
  split
  · exact ⟨⟨id, fun _ => le_rfl, le_rfl⟩, rfl, fun _ => id⟩
  · exact .refl s

/-- A change of the list sets LIST, whatever it writes of the list (R87). -/
theorem listInsert_unitFrame (p : PointNo) : UnitFrame s (s.listInsert p) :=
  .of_setCause (c := .list) rfl rfl rfl rfl rfl

theorem listRemove_unitFrame (p : PointNo) : UnitFrame s (s.listRemove p) :=
  .of_setCause (c := .list) rfl rfl rfl rfl rfl

theorem listMove_unitFrame (p : PointNo) : UnitFrame s (s.listMove p) :=
  .of_setCause (c := .list) rfl rfl rfl rfl rfl

theorem enterList_unitFrame (p : PointNo) : UnitFrame s (s.enterList p) :=
  (listInsert_unitFrame s p).trans (setPoint_unitFrame _ p _)

theorem leaveList_unitFrame (p : PointNo) : UnitFrame s (s.leaveList p) := by
  unfold State.leaveList
  split
  · exact (listRemove_unitFrame s p).trans (setPoint_unitFrame _ p _)
  · exact .refl s

/-! ### A change of state (R41) -/

theorem reportList_unitFrame (p : PointNo) (old new : AnnState) : UnitFrame s (s.reportList p old new) := by
  unfold State.reportList
  split
  · dsimp only
    split
    · exact (enterList_unitFrame s p).trans (groupNotice_unitFrame _ _ _)
    · exact enterList_unitFrame s p
  · split
    · exact (leaveList_unitFrame s p).trans (groupNotice_unitFrame _ _ _)
    · exact .refl s

theorem reportAudible_unitFrame (p : PointNo) (new : AnnState) (b : Bool) : UnitFrame s (s.reportAudible p new b) := by
  have h : UnitFrame s (if b then s.refreshHorn else s) := by
    split
    exacts [refreshHorn_unitFrame s, .refl s]
  unfold State.reportAudible
  cases new with
  | quiet | alarmAcked => exact h
  | alarmNew => exact h.trans (setCause_unitFrame _ _)
  | clearedNew | ringback => exact (h.trans (pointChime_unitFrame _ p)).trans (setCause_unitFrame _ _)

theorem applyTransition_unitFrame (p : PointNo) (tr : Transition) : UnitFrame s (s.applyTransition p tr) :=
  ((setPoint_unitFrame s p _).trans (reportList_unitFrame _ _ _ _)).trans (reportAudible_unitFrame _ _ _ _)

theorem seqEvent_unitFrame (p : PointNo) (ev : SeqEvent) : UnitFrame s (s.seqEvent p ev) := by
  rcases seqEvent_cases s p ev with ⟨-, h⟩ | ⟨tr, -, h⟩ <;> rw [h]
  · exact .refl s
  · exact applyTransition_unitFrame s p tr

theorem arriveIfOffNormal_unitFrame (p : PointNo) : UnitFrame s (s.arriveIfOffNormal p) := by
  unfold State.arriveIfOffNormal
  split
  · exact seqEvent_unitFrame s p _
  · exact .refl s

theorem deliver_unitFrame (p : PointNo) (c : Condition) : UnitFrame s (s.deliver p c) :=
  (setPoint_unitFrame s p _).trans (seqEvent_unitFrame _ p _)

theorem actAt_eq_seqEvent (ev : SeqEvent) (sn : State × Nat) (p : PointNo) : (actAt ev sn p).1 = sn.1.seqEvent p ev := by
  unfold actAt State.seqEvent
  split <;> rfl

/-- An action on a set of points is its event at one point after the other (R49). -/
theorem actOn_eq_foldl (ev : SeqEvent) (ps : List PointNo) :
    (s.actOn ev ps).1 = ps.foldl (fun s p => s.seqEvent p ev) s := by
  have h (sn : State × Nat) : (ps.foldl (actAt ev) sn).1 = ps.foldl (fun s p => s.seqEvent p ev) sn.1 := by
    induction ps generalizing sn with
    | nil => rfl
    | cons p ps ih => rw [List.foldl_cons, ih, actAt_eq_seqEvent]; rfl
  exact h (s, 0)

theorem actOn_unitFrame (ev : SeqEvent) (ps : List PointNo) : UnitFrame s (s.actOn ev ps).1 := by
  rw [actOn_eq_foldl]
  exact .foldl (fun s p => seqEvent_unitFrame s p ev) ps s

theorem silenceAll_unitFrame : UnitFrame s s.silenceAll := by
  rw [silenceAll_eq_silenced]
  exact .of_eq rfl rfl rfl rfl rfl

theorem changeCondition_unitFrame (p : PointNo) (c : Condition) : UnitFrame s (s.changeCondition p c) := by
  unfold State.changeCondition
  split
  · exact .refl s
  · exact (setPoint_unitFrame s p _).trans (deliver_unitFrame _ p c)

/-! ### Withdrawals and returns -/

theorem takeSlot_unitFrame (k : SlotNo) (p : PointNo) (n : Nat) : UnitFrame s (s.takeSlot k p n) :=
  (setSlot_unitFrame s k _).trans (setPoint_unitFrame _ p _)

theorem freeSlot_unitFrame (k : SlotNo) (p : PointNo) : UnitFrame s (s.freeSlot k p) :=
  (setSlot_unitFrame s k _).trans (setPoint_unitFrame _ p _)

theorem freeSlotOf_unitFrame (p : PointNo) : UnitFrame s (s.freeSlotOf p) := by
  unfold State.freeSlotOf
  split
  next k _ => exact freeSlot_unitFrame s k p
  next => exact .refl s

theorem shelveNotice_unitFrame (p : PointNo) : UnitFrame s (s.shelveNotice p) :=
  (((setPoint_unitFrame s p _).trans (leaveList_unitFrame _ p)).trans (groupNotice_unitFrame _ _ p)).trans
    (refreshHorn_unitFrame _)

theorem removePoint_unitFrame (p : PointNo) : UnitFrame s (s.removePoint p) :=
  ((((leaveList_unitFrame s p).trans (freeSlotOf_unitFrame _ p)).trans (setPoint_unitFrame _ p _)).trans
    (groupNotice_unitFrame _ _ p)).trans (refreshHorn_unitFrame _)

theorem expireSlot_unitFrame (k : SlotNo) : UnitFrame s (s.expireSlot k) := by
  unfold State.expireSlot
  split
  next r _ =>
    exact ((freeSlot_unitFrame s k r.point).trans (arriveIfOffNormal_unitFrame _ _)).trans (setCause_unitFrame _ _)
  next => exact .refl s

theorem expireIfDue_unitFrame (k : SlotNo) : UnitFrame s (s.expireIfDue k) := by
  unfold State.expireIfDue
  split
  next => split; exacts [expireSlot_unitFrame s k, .refl s]
  next => exact .refl s

theorem shelfSecond_unitFrame : UnitFrame s s.shelfSecond :=
  (UnitFrame.foldl (fun s k => setSlot_unitFrame s k _) allSlots s).trans
    (UnitFrame.foldl expireIfDue_unitFrame allSlots _)

theorem changeClass_unitFrame (p : PointNo) (c : ClassNo) : UnitFrame s (s.changeClass p c) := by
  have hset : UnitFrame s (s.setPoint p { s.point p with cls := c }) := setPoint_unitFrame s p _
  have hmove := hset.trans (listMove_unitFrame _ p)
  unfold State.changeClass
  dsimp only
  split_ifs
  · exact hmove.trans (refreshHorn_unitFrame _)
  · exact hmove
  · exact hset

/-! ### Field lines -/

theorem judgePoint_unitFrame (p : PointNo) : UnitFrame s (s.judgePoint p) := by
  have hlifted : UnitFrame s ((s.setPoint p { s.point p with lockout := false }).setCause .chatter) :=
    (setPoint_unitFrame s p _).trans (setCause_unitFrame _ _)
  unfold State.judgePoint
  dsimp only
  split_ifs
  · exact hlifted.trans (deliver_unitFrame _ p .normal)
  · exact hlifted
  · exact setPoint_unitFrame s p _

theorem closeWindow_unitFrame : UnitFrame s s.closeWindow := by
  refine .foldl (fun s k => ?_) allLines s
  unfold State.judgeLine
  split
  next p _ => exact judgePoint_unitFrame s p
  next => exact .refl s

theorem acceptChange_unitFrame (p : PointNo) (c : Condition) : UnitFrame s (s.acceptChange p c) := by
  have hcounted (r : PointRec) : UnitFrame s (s.setPoint p r) := setPoint_unitFrame s p r
  have hlocked (r r' : PointRec) : UnitFrame s (((s.setPoint p r).setPoint p r').setCause .chatter) :=
    ((hcounted r).trans (setPoint_unitFrame _ p r')).trans (setCause_unitFrame _ _)
  unfold State.acceptChange
  dsimp only
  split_ifs
  · exact hcounted _
  · exact hlocked _ _
  · exact (hlocked _ _).trans (deliver_unitFrame _ p _)
  · exact hcounted _
  · exact (hcounted _).trans (deliver_unitFrame _ p c)

theorem debouncePoint_unitFrame (p : PointNo) (c : Condition) : UnitFrame s (s.debouncePoint p c) := by
  unfold State.debouncePoint
  dsimp only
  split_ifs
  · exact setPoint_unitFrame s p _
  · exact setPoint_unitFrame s p _
  · exact acceptChange_unitFrame s p c

theorem sampleLine_unitFrame (k : LineNo) : UnitFrame s (s.sampleLine k) := by
  unfold State.sampleLine
  split
  next p _ => exact debouncePoint_unitFrame s p _
  next => exact .refl s

/-! ### Soft reset -/

/-- The first stage clears the causes, and so ATTNn too, and both timers (R129, R151, R161). -/
theorem softResetClear_levels : KeepsLevels s s.softResetClear := by
  unfold State.softResetClear
  extract_lets withPoints withGroups
  clear_value withGroups
  exact ⟨fun _ => refreshAttn_attnLaw _, fun _ => Nat.zero_le _, Nat.zero_le _⟩

theorem softResetClear_frame : AnnFrame s s.softResetClear := by
  unfold State.softResetClear
  extract_lets withPoints withGroups
  have hpoints : UnitFrame s withPoints := .foldl (fun u p => setPoint_unitFrame u p _) allPoints s
  have hgroups : UnitFrame withPoints withGroups := .foldl (fun u g => setGroup_unitFrame u g _) allGroups withPoints
  clear_value withGroups withPoints
  exact (hpoints.trans hgroups).frame.trans rfl

theorem reannounce_unitFrame : UnitFrame s s.reannounce := .foldl arriveIfOffNormal_unitFrame allPoints s

theorem softResetAll_levels : KeepsLevels s s.softResetAll :=
  (softResetClear_levels s).trans (reannounce_unitFrame s.softResetClear).toKeepsLevels

theorem softResetAll_frame : AnnFrame s s.softResetAll :=
  (softResetClear_frame s).trans (reannounce_unitFrame s.softResetClear).frame

/-! ### The uptime increase (R154) -/

/-- The first part of a second tick writes the uptime and the record of the second tick, and nothing else. -/
theorem beginSecond_eq : s.beginSecond = { s with uptime := s.beginSecond.uptime, second := .begun } := by
  unfold State.beginSecond
  split_ifs with h
  · rw [← h]
  · rfl

theorem increaseUptime_cases (h : s.increaseUptime.uptime ≠ s.uptime) :
    s.increaseUptime.uptime = uptimeAfter s.uptime ∧ s.increaseUptime.uptime ≤ 0xFFFFFFFE := by
  unfold State.increaseUptime uptimeMax uptimeAfter at *
  dsimp only at *
  split_ifs at * with hlt
  · omega
  · exact absurd rfl h

/-- The uptime stands, or is the one that R154 gives. -/
theorem beginSecond_uptime : s.beginSecond.uptime = s.uptime ∨
    s.beginSecond.uptime = uptimeAfter s.uptime ∧ s.beginSecond.uptime ≤ 0xFFFFFFFE := by
  unfold State.beginSecond
  split_ifs
  · exact .inl rfl
  · exact or_iff_not_imp_left.2 (increaseUptime_cases s)

end

/-! ### The acts -/

/-- An act of the annunciation leaves the rest of the device and clears no cause, but for the uptime increase with which the
rows of a second tick may begin, and for the soft reset. -/
theorem AnnAct.unitFrame {c : Instr} {s t : State} (h : AnnAct c s t) :
    UnitFrame s t ∨ t = s.softResetAll ∨
      (c = .secondTick ∨ c = .windowBoundary ∨ c = .shelfExpiry) ∧ UnitFrame s.beginSecond t := by
  cases h with
  | acted hev ps => exact .inl (actOn_unitFrame s _ ps)
  | silenced => exact .inl (silenceAll_unitFrame s)
  | conditionSet cond hin hsrc => exact .inl (changeCondition_unitFrame s _ cond)
  | placed hout hline => exact .inl ((setPoint_unitFrame s _ _).trans (arriveIfOffNormal_unitFrame _ _))
  | removed hin => exact .inl (removePoint_unitFrame s _)
  | shelved hin hshelf hfree hlo hhi => exact .inl ((takeSlot_unitFrame s _ _ _).trans (shelveNotice_unitFrame _ _))
  | unshelved hshelf => exact .inl ((freeSlot_unitFrame s _ _).trans (arriveIfOffNormal_unitFrame _ _))
  | classChanged p cls => exact .inl (changeClass_unitFrame s p cls)
  | defined hout hlo hhi => exact .inl (setPoint_unitFrame s _ _)
  | optionSet g on => exact .inl (setGroup_unitFrame s g _)
  | listPlaced hq hm => exact .inl (.of_eq rfl rfl rfl rfl rfl)
  | classOptionsSet cls o => exact .inl (.of_eq rfl rfl rfl rfl rfl)
  | softReset => exact .inr (.inl rfl)
  | secondTaken =>
    refine .inr (.inr ⟨.inl rfl, (shelfSecond_unitFrame s.beginSecond).trans ?_⟩)
    unfold State.takeSecond
    generalize s.beginSecond.shelfSecond = u
    exact .of_eq rfl rfl rfl rfl rfl
  | boundaryTaken =>
    unfold State.takeBoundary
    split_ifs
    · exact .inr (.inr ⟨.inr (.inl rfl), closeWindow_unitFrame _⟩)
    · exact .inl (closeWindow_unitFrame s)
    · exact .inl (.refl s)
  | expiredAhead =>
    unfold State.expireAhead
    split_ifs
    · exact .inl (.refl s)
    · split
      next k _ => exact .inr (.inr ⟨.inr (.inr rfl), expireSlot_unitFrame _ k⟩)
      next => exact .inl (.refl s)

/-- The same for every act: the levels are kept, and all else stands but the uptime, which R154 may take one further. -/
theorem AnnAct.frame {c : Instr} {s t : State} (h : AnnAct c s t) :
    KeepsLevels s t ∧ AnnFrame { s with uptime := t.uptime } t ∧ (t.uptime = s.uptime ∨
      (t.uptime = uptimeAfter s.uptime ∧ t.uptime ≤ 0xFFFFFFFE) ∧
        (c = .secondTick ∨ c = .windowBoundary ∨ c = .shelfExpiry)) := by
  have of_frame (hlevels : KeepsLevels s t) (hframe : AnnFrame s t) :
      KeepsLevels s t ∧ AnnFrame { s with uptime := t.uptime } t ∧ t.uptime = s.uptime := by
    have hup : t.uptime = s.uptime := by rw [hframe]
    rw [hup]
    exact ⟨hlevels, hframe, rfl⟩
  rcases h.unitFrame with hu | ht | ⟨hc, hu⟩
  · exact (of_frame hu.toKeepsLevels hu.frame).imp id (.imp id .inl)
  · exact (of_frame (ht ▸ softResetAll_levels s) (ht ▸ softResetAll_frame s)).imp id (.imp id .inl)
  · have ht : t.uptime = s.beginSecond.uptime := by rw [hu.frame]
    have hb := beginSecond_eq s
    refine ⟨?_, ?_, ?_⟩
    · rw [hb] at hu
      exact ⟨hu.attn, hu.chime, hu.hostTimer⟩
    · have hf := hu.frame
      rw [ht]
      unfold AnnFrame at *
      rw [hf, hb]
    · rw [ht]
      exact (beginSecond_uptime s).imp id fun h => ⟨h, hc⟩

end Sys2Proof.Machine
end

section
/-!
What the acts of the device leave of the annunciation, and what a sample is: the reading of lines and buttons, and then its
line deliveries and button events in the order that the free value gives (R20, R117 to R120, R152, log entry 5).
-/

namespace Sys2Proof.Machine

/-! ### The acts of the device -/

/-- `t` differs from `s` in the fields of timers, panel, limits, causes and locks, and in no other. -/
def DevFrame (s t : State) : Prop :=
  t = { s with
    periodCount := t.periodCount, tickCount := t.tickCount, phase := t.phase, frameCount := t.frameCount,
    chatterLimit := t.chatterLimit, lockMask := t.lockMask, bankA := t.bankA, bankB := t.bankB, live := t.live,
    swapPending := t.swapPending, reqBrightness := t.reqBrightness, brightness := t.brightness,
    panelEnabled := t.panelEnabled, hostTimer := t.hostTimer, buttonTest := t.buttonTest, frame := t.frame,
    chimeTimer := t.chimeTimer, causes := t.causes, enables := t.enables, attn := t.attn, phaseAhead := t.phaseAhead,
    second := t.second }

theorem stopHostTest_cases (s : State) :
    s.stopHostTest = s ∨ s.stopHostTest = { s with hostTimer := 0 }.withCauses (if s.buttonTest then 0#8 else 0x80#8) := by
  by_cases h : 0 < s.hostTimer
  · exact .inr (stopHostTest_eq s h)
  · exact .inl (stopHostTest_of_stopped s (by omega))

theorem advanceAhead_cases (s : State) :
    s.advanceAhead = s ∨ s.advanceAhead = { s with phase := s.phase + 1, frameCount := 0, phaseAhead := true } := by
  unfold State.advanceAhead
  split
  exacts [.inr rfl, .inl rfl]

theorem live_cases (s : State) : s.live = .a ∨ s.live = .b := by
  cases s.live
  exacts [.inl rfl, .inr rfl]

theorem setStaging_cases (s : State) (w : WindowNo) (e : WindowEntry) :
    s.setStaging w e = { s with bankB := s.bankB.set w e } ∨ s.setStaging w e = { s with bankA := s.bankA.set w e } := by
  rcases live_cases s with h | h
  · exact .inl (setStaging_of_live_a h)
  · exact .inr (setStaging_of_live_b h)

theorem copyLive_cases {s : State} (h : s.swapPending = false) :
    s.copyLive.1 = { s with bankB := s.bankA } ∨ s.copyLive.1 = { s with bankA := s.bankB } := by
  rcases live_cases s with hlive | hlive
  · rw [copyLive_of_live_a h hlive]; exact .inl rfl
  · rw [copyLive_of_live_b h hlive]; exact .inr rfl

theorem testReleased_cases (s : State) : s.testReleased = s ∨
    s.testReleased = { s with buttonTest := false }.withCauses (if s.hostTimer = 0 then 0x80#8 else 0#8) := by
  unfold State.testReleased
  split
  exacts [.inr rfl, .inl rfl]

theorem relocked_cases (s : State) (mask : Byte) : s.relocked mask = { s with lockMask := BitVec.ofNat 4 mask.toNat } ∨
    s.relocked mask = { s with lockMask := BitVec.ofNat 4 mask.toNat, buttonTest := false }.withCauses
      (if s.hostTimer = 0 then 0x80#8 else 0#8) := by
  unfold State.relocked
  split
  · exact testReleased_cases { s with lockMask := _ }
  · exact .inl rfl

theorem relocked_test_of_locked (s : State) {mask : Byte} (h : mask.getLsbD 3 = true) :
    (s.relocked mask).buttonTest = false := by
  have hmask : s.relocked mask = { s with lockMask := BitVec.ofNat 4 mask.toNat }.testReleased := if_pos h
  rw [hmask]
  unfold State.testReleased
  split
  next => rfl
  next hoff => simpa using hoff

theorem DevAct.frame {s t : State} (h : DevAct s t) : DevFrame s t := by
  cases h with
  | ticked => rw [tick_eq]; rfl
  | chimeExpired => rfl
  | hostTestExpired => rw [tickHostTest_eq]; rfl
  | hostTestStarted => rw [startHostTest_eq]; rfl
  | hostTestStopped => rcases stopHostTest_cases s with h | h <;> rw [h] <;> rfl
  | frameStarted => rw [startFrame_eq]; rfl
  | phaseAdvanced => rcases advanceAhead_cases s with h | h <;> rw [h] <;> rfl
  | swapped => rw [carryOutSwap_eq]; rfl
  | brightened => rfl
  | brightnessSet hlo hhi => rfl
  | panelSet on => rfl
  | windowWritten hswap w e => rcases setStaging_cases s w e with h | h <;> rw [h] <;> rfl
  | swapAsked hswap => rfl
  | copied hswap => rcases copyLive_cases hswap with h | h <;> rw [h] <;> rfl
  | limitSet hn => rfl
  | causesCleared mask => rfl
  | enabled enables => rfl
  | relocked hmask => rename_i mask; rcases relocked_cases s mask with h | h <;> rw [h] <;> rfl

/-! ### The levels of the device (R25, R126, R144, R147, R160) -/

theorem withCauses_attnLaw {s : State} (h : s.AttnLaw) (bits : Byte) : (s.withCauses bits).AttnLaw := by
  by_cases hbits : bits = 0#8
  · rwa [hbits, withCauses_zero]
  · have hattn : (s.withCauses bits).attn = (s.withCauses bits).attnLevel := if_neg hbits
    rw [State.AttnLaw, hattn, attnLevel_iff]

theorem DevAct.attn {s t : State} (h : DevAct s t) (ha : s.AttnLaw) : t.AttnLaw := by
  cases h with
  | ticked => rw [tick_eq]; exact withCauses_attnLaw (s := { s with periodCount := _ }) ha _
  | hostTestExpired => rw [tickHostTest_eq]; exact withCauses_attnLaw (s := { s with hostTimer := _ }) ha _
  | hostTestStarted => rw [startHostTest_eq]; exact ha
  | hostTestStopped =>
    rcases stopHostTest_cases s with h | h <;> rw [h]
    exacts [ha, withCauses_attnLaw (s := { s with hostTimer := 0 }) ha _]
  | frameStarted => rw [startFrame_eq]; exact withCauses_attnLaw (s := { s with swapPending := false }) ha _
  | phaseAdvanced => rcases advanceAhead_cases s with h | h <;> rw [h] <;> exact ha
  | swapped => rw [carryOutSwap_eq]; exact withCauses_attnLaw (s := { s with swapPending := false }) ha _
  | windowWritten hswap w e => rcases setStaging_cases s w e with h | h <;> rw [h] <;> exact ha
  | copied hswap => rcases copyLive_cases hswap with h | h <;> rw [h] <;> exact ha
  | causesCleared mask => exact causesCleared_attnLaw s mask
  | enabled enables => exact enabledBy_attnLaw s enables
  | relocked hmask =>
    rename_i mask
    rcases relocked_cases s mask with h | h <;> rw [h]
    exacts [ha, withCauses_attnLaw (s := { s with buttonTest := false }) ha _]
  | _ => exact ha

theorem DevAct.range {s t : State} (h : DevAct s t) (hr : s.DeviceRangeLaw) : t.DeviceRangeLaw := by
  obtain ⟨huptime, hlimit, hlimit15, hchime, htimer, hreq1, hreq16, hbright1, hbright16⟩ := hr
  have same : s.DeviceRangeLaw := ⟨huptime, hlimit, hlimit15, hchime, htimer, hreq1, hreq16, hbright1, hbright16⟩
  have hpred (n b : Nat) (h : n ≤ b) : n - 1 ≤ b := (Nat.sub_le n 1).trans h
  cases h with
  | ticked =>
    rw [tick_eq]
    exact ⟨huptime, hlimit, hlimit15, hpred _ _ hchime, hpred _ _ htimer, hreq1, hreq16, hbright1, hbright16⟩
  | chimeExpired => exact ⟨huptime, hlimit, hlimit15, hpred _ _ hchime, htimer, hreq1, hreq16, hbright1, hbright16⟩
  | hostTestExpired =>
    rw [tickHostTest_eq]
    exact ⟨huptime, hlimit, hlimit15, hchime, hpred _ _ htimer, hreq1, hreq16, hbright1, hbright16⟩
  | hostTestStarted =>
    rw [startHostTest_eq]
    refine ⟨huptime, hlimit, hlimit15, ?_, le_rfl, hreq1, hreq16, hbright1, hbright16⟩
    dsimp only
    split <;> omega
  | hostTestStopped =>
    rcases stopHostTest_cases s with h | h <;> rw [h]
    exacts [same, ⟨huptime, hlimit, hlimit15, hchime, Nat.zero_le _, hreq1, hreq16, hbright1, hbright16⟩]
  | frameStarted =>
    rw [startFrame_eq]
    exact ⟨huptime, hlimit, hlimit15, hchime, htimer, hreq1, hreq16, hreq1, hreq16⟩
  | phaseAdvanced => rcases advanceAhead_cases s with h | h <;> rw [h] <;> exact same
  | swapped => rw [carryOutSwap_eq]; exact same
  | brightened => exact ⟨huptime, hlimit, hlimit15, hchime, htimer, hreq1, hreq16, hreq1, hreq16⟩
  | brightnessSet hlo hhi => exact ⟨huptime, hlimit, hlimit15, hchime, htimer, hlo, hhi, hbright1, hbright16⟩
  | windowWritten hswap w e => rcases setStaging_cases s w e with h | h <;> rw [h] <;> exact same
  | copied hswap => rcases copyLive_cases hswap with h | h <;> rw [h] <;> exact same
  | limitSet hn =>
    rename_i n
    have hn15 : n ≤ 15 := by omega
    exact ⟨huptime, hn.imp_right fun h => h.1, hn15, hchime, htimer, hreq1, hreq16, hbright1, hbright16⟩
  | relocked hmask => rename_i mask; rcases relocked_cases s mask with h | h <;> rw [h] <;> exact same
  | _ => exact same

/-- The button test outlives an act of the device only with TSTn unlocked (R121). -/
theorem DevAct.button {s t : State} (h : DevAct s t) (hb : s.ButtonLaw) : t.ButtonLaw := by
  cases h with
  | ticked => rw [tick_eq]; exact hb
  | hostTestExpired => rw [tickHostTest_eq]; exact hb
  | hostTestStarted => rw [startHostTest_eq]; exact hb
  | hostTestStopped => rcases stopHostTest_cases s with h | h <;> rw [h] <;> exact hb
  | frameStarted => rw [startFrame_eq]; exact hb
  | phaseAdvanced => rcases advanceAhead_cases s with h | h <;> rw [h] <;> exact hb
  | swapped => rw [carryOutSwap_eq]; exact hb
  | windowWritten hswap w e => rcases setStaging_cases s w e with h | h <;> rw [h] <;> exact hb
  | copied hswap => rcases copyLive_cases hswap with h | h <;> rw [h] <;> exact hb
  | relocked hmask =>
    rename_i mask
    obtain ⟨hrun, htest⟩ := hb
    by_cases hlock : mask.getLsbD 3 = true
    · refine ⟨fun i => ?_, fun h => ?_⟩
      · rcases relocked_cases s mask with h | h <;> rw [h] <;> exact hrun i
      · rw [relocked_test_of_locked s hlock] at h
        cases h
    · have h : s.relocked mask = { s with lockMask := BitVec.ofNat 4 mask.toNat } := if_neg hlock
      rw [h]
      exact ⟨hrun, fun h => ⟨(htest h).1, (getLsbD_lockBits mask (by decide)).trans (Bool.eq_false_iff.2 hlock)⟩⟩
  | _ => exact hb

/-- A pending swap guards both banks, and is ended by the exchange of the roles alone (R135, R136). -/
theorem DevAct.banks {s t : State} (h : DevAct s t) (hswap : s.swapPending = true) :
    t.bankA = s.bankA ∧ t.bankB = s.bankB ∧
      ((t.swapPending = true ∧ t.live = s.live) ∨ (t.swapPending = false ∧ t.live ≠ s.live)) := by
  have hother : s.live.other ≠ s.live := by cases s.live <;> decide
  have same : s.bankA = s.bankA ∧ s.bankB = s.bankB ∧
      ((s.swapPending = true ∧ s.live = s.live) ∨ (s.swapPending = false ∧ s.live ≠ s.live)) :=
    ⟨rfl, rfl, .inl ⟨hswap, rfl⟩⟩
  have swapped : (if s.swapPending then s.live.other else s.live) ≠ s.live := by rwa [if_pos hswap]
  cases h with
  | ticked => rw [tick_eq]; exact same
  | hostTestExpired => rw [tickHostTest_eq]; exact same
  | hostTestStarted => rw [startHostTest_eq]; exact same
  | hostTestStopped => rcases stopHostTest_cases s with h | h <;> rw [h] <;> exact same
  | frameStarted => rw [startFrame_eq]; exact ⟨rfl, rfl, .inr ⟨rfl, swapped⟩⟩
  | phaseAdvanced => rcases advanceAhead_cases s with h | h <;> rw [h] <;> exact same
  | swapped => rw [carryOutSwap_eq]; exact ⟨rfl, rfl, .inr ⟨rfl, swapped⟩⟩
  | windowWritten hfree w e => simp [hswap] at hfree
  | swapAsked hfree => simp [hswap] at hfree
  | copied hfree => simp [hswap] at hfree
  | relocked hmask => rename_i mask; rcases relocked_cases s mask with h | h <;> rw [h] <;> exact same
  | _ => exact same

/-! ### The button debouncers of a sample (R117, R118) -/

/-- The button of a bit of the lock and level bytes (E.3). -/
def Button.ofIdx : Fin 4 → Button
  | 0 => .ack
  | 1 => .sil
  | 2 => .rst
  | 3 => .tst

@[simp] theorem Button.idx_ofIdx (i : Fin 4) : (Button.ofIdx i).idx = i := by
  match i with
  | 0 | 1 | 2 | 3 => rfl

@[simp] theorem Button.ofIdx_idx (b : Button) : Button.ofIdx b.idx = b := by cases b <;> rfl

/-- The event of a button whose level is accepted (R117). -/
def eventOf (pins : BitVec 4) (i : Fin 4) : ButtonEvent :=
  if pinPressed pins i then .press (Button.ofIdx i) else .release (Button.ofIdx i)

theorem ButtonRec.sample_eq (r : ButtonRec) (pressed : Bool) :
    r.sample pressed = (r.sampled pressed, r.accepts pressed) := by
  unfold ButtonRec.sample ButtonRec.sampled ButtonRec.accepts buttonDebounce
  split_ifs with hsame hrun
  · simp [hsame]
  · have h : ¬ 10 ≤ r.run + 1 := by omega
    simp [h]
  · have h : 10 ≤ r.run + 1 := by omega
    simp [h, hsame]

theorem sampleButton_eq (pins : BitVec 4) (acc : State × List ButtonEvent) (b : Button) :
    State.sampleButton pins acc b =
      (acc.1.setButton b ((acc.1.button b).sampled (pinPressed pins b.idx)),
        if (acc.1.button b).accepts (pinPressed pins b.idx) then acc.2 ++ [eventOf pins b.idx] else acc.2) := by
  simp only [State.sampleButton, ButtonRec.sample_eq, eventOf, pinPressed, Button.ofIdx_idx]

/-- The events of a sample, in the order of the input unit. -/
def State.buttonEvents (s : State) (pins : BitVec 4) : List ButtonEvent := (s.acceptedButtons pins).map (eventOf pins)

/-- Collecting one after the other what passes a test. -/
theorem foldl_append_if {α β : Type} (f : α → Bool) (g : α → β) (l : List α) (acc : List β) :
    l.foldl (fun es i => if f i then es ++ [g i] else es) acc = acc ++ (l.filter f).map g := by
  induction l generalizing acc with
  | nil => simp
  | cons a l ih =>
    rw [List.foldl_cons, ih]
    cases h : f a <;> simp [h]

/-- A sample is its reading, and then the run of its lines and events. -/
theorem takeSample_eq (s : State) (lines : BitVec 32) (pins : BitVec 4) :
    s.takeSample lines pins = State.runSample allLines (s.buttonEvents pins) (s.read lines pins) := by
  have hfold : buttonOrder.foldl (State.sampleButton pins) ({ s with lines := lines }, []) =
      (s.read lines pins, s.buttonEvents pins) := by
    refine Prod.ext ?_ ?_
    · have hset (a b c d : ButtonRec) :
          ((((s.buttons.set 0 a).set 1 b).set 2 c).set 3 d) = #v[a, b, c, d] := by
        ext i hi : 1
        match i, hi with
        | 0, _ | 1, _ | 2, _ | 3, _ => simp
      simp [buttonOrder, sampleButton_eq, State.button, State.setButton, Button.idx, State.read, hset]
    · have hall : List.finRange 4 = [0, 1, 2, 3] := rfl
      have hevents := foldl_append_if (fun i : Fin 4 => s.buttons[i].accepts (pinPressed pins i)) (eventOf pins)
        (List.finRange 4) []
      rw [State.buttonEvents, State.acceptedButtons, ← List.nil_append (List.map _ _), ← hevents, hall]
      simp [buttonOrder, sampleButton_eq, State.button, State.setButton, Button.idx]
      rfl
  rw [State.takeSample, hfold]

/-! ### The run of a sample (R118, log entry 5) -/

/-- A run takes the lines and the events that are left to it, each list in its own order, to their end. -/
inductive SampleRun : List LineNo → List ButtonEvent → State → State → Prop
  | done (s : State) : SampleRun [] [] s s
  | line {k : LineNo} {ks : List LineNo} {es : List ButtonEvent} {s t : State} (h : SampleRun ks es (s.sampleLine k) t) :
    SampleRun (k :: ks) es s t
  | event {e : ButtonEvent} {ks : List LineNo} {es : List ButtonEvent} {s t : State}
    (h : SampleRun ks es (s.takeButtonEvent e) t) : SampleRun ks (e :: es) s t
  | ordered (n : Nat) {ks : List LineNo} {es : List ButtonEvent} {s t : State}
    (h : SampleRun ks es { s with orderIndex := n } t) : SampleRun ks es s t

theorem SampleRun.events {ks : List LineNo} {es : List ButtonEvent} {t : State} :
    ∀ (taken : List ButtonEvent) {s : State}, SampleRun ks es (taken.foldl State.takeButtonEvent s) t →
      SampleRun ks (taken ++ es) s t
  | [], _, h => h
  | _ :: taken, _, h => .event (SampleRun.events taken h)

theorem runSample_run (ks : List LineNo) (es : List ButtonEvent) (s : State) :
    SampleRun ks es s (State.runSample ks es s) := by
  induction ks generalizing es s with
  | nil =>
    rw [← List.append_nil es]
    refine .events es ?_
    rw [List.append_nil]
    exact .done _
  | cons k ks ih =>
    cases es with
    | nil => exact .line (ih [] _)
    | cons e es =>
      rw [State.runSample]
      generalize Config.buttonEventsBefore s.orderIndex = n
      refine .ordered (s.orderIndex + 1) ?_
      conv => arg 2; rw [← List.take_append_drop n (e :: es)]
      exact .events _ (.line (ih _ _))

/-! ### What an item of a sample leaves -/

/-- What an item of a sample leaves: the levels kept, no cause cleared, and no field of the device written but the buttons,
the button test and the index of the free value. -/
structure SampleKeeps (s t : State) : Prop extends KeepsLevels s t where
  frame : AnnFrame { s with buttons := t.buttons, buttonTest := t.buttonTest, orderIndex := t.orderIndex } t
  causes : ∀ i, s.causes.getLsbD i = true → t.causes.getLsbD i = true

namespace SampleKeeps

theorem refl (s : State) : SampleKeeps s s := ⟨⟨id, id, le_rfl⟩, rfl, fun _ => id⟩

theorem trans {s t u : State} (h₁ : SampleKeeps s t) (h₂ : SampleKeeps t u) : SampleKeeps s u where
  toKeepsLevels := h₁.toKeepsLevels.trans h₂.toKeepsLevels
  frame := by
    have h₁ := h₁.frame
    have h₂ := h₂.frame
    unfold AnnFrame at *
    rw [h₂, h₁]
  causes i h := h₂.causes i (h₁.causes i h)

theorem of_unitFrame {s t : State} (h : UnitFrame s t) : SampleKeeps s t where
  toKeepsLevels := h.toKeepsLevels
  frame := by
    have h := h.frame
    unfold AnnFrame at *
    rw [h]
  causes := h.causes

end SampleKeeps

theorem lampTestChime_cases (s : State) :
    s.lampTestChime = s ∨ s.lampTestChime = { s with chimeTimer := 500 } := by
  unfold State.lampTestChime
  split
  exacts [.inl rfl, .inr rfl]

theorem endButtonTest_keeps (s : State) : SampleKeeps s s.endButtonTest := by
  rw [endButtonTest_eq]
  rcases testReleased_cases s with h | h <;> rw [h]
  · exact .refl s
  · refine ⟨⟨fun ha => withCauses_attnLaw (s := { s with buttonTest := false }) ha _, id, le_rfl⟩, rfl, fun i hi => ?_⟩
    simp [State.withCauses, hi]

theorem beginButtonTest_keeps (s : State) : SampleKeeps s s.beginButtonTest := by
  unfold State.beginButtonTest
  rcases lampTestChime_cases s with h | h <;> rw [h]
  · exact ⟨⟨id, id, le_rfl⟩, rfl, fun _ => id⟩
  · exact ⟨⟨id, fun _ => le_rfl, le_rfl⟩, rfl, fun _ => id⟩

/-- An accepted press once it is counted, with BUTTON set (R119). -/
def State.pressCounted (s : State) (b : Button) : State :=
  (s.setButton b { s.button b with presses := (s.button b).presses + 1#8 }).setCause .button

theorem takePress_eq (s : State) (b : Button) :
    s.takePress b = if s.locked b then s.pressCounted b else (s.pressCounted b).buttonAction b := rfl

theorem pressCounted_keeps (s : State) (b : Button) : SampleKeeps s (s.pressCounted b) := by
  refine ⟨⟨fun _ => ?_, id, le_rfl⟩, rfl, fun i hi => ?_⟩
  · rw [State.AttnLaw, State.pressCounted, setCause_attn, attnLevel_iff]
  · simp [State.pressCounted, State.setCause, State.refreshAttn, State.setButton, hi]

theorem buttonAction_keeps (s : State) (b : Button) : SampleKeeps s (s.buttonAction b) := by
  cases b with
  | ack => exact .of_unitFrame (actOn_unitFrame s .ack allPoints)
  | sil => exact .of_unitFrame (silenceAll_unitFrame s)
  | rst => exact .of_unitFrame (actOn_unitFrame s .reset allPoints)
  | tst => exact beginButtonTest_keeps s

theorem takeButtonEvent_keeps (s : State) (e : ButtonEvent) : SampleKeeps s (s.takeButtonEvent e) := by
  cases e with
  | press b =>
    have h : SampleKeeps s (s.takePress b) := by
      rw [takePress_eq]
      split
      · exact pressCounted_keeps s b
      · exact (pressCounted_keeps s b).trans (buttonAction_keeps _ b)
    exact h
  | release b =>
    have h : SampleKeeps s (s.takeRelease b) := by
      unfold State.takeRelease
      split
      exacts [endButtonTest_keeps s, .refl s]
    exact h

theorem SampleRun.keeps {ks : List LineNo} {es : List ButtonEvent} {s t : State} (h : SampleRun ks es s t) :
    SampleKeeps s t := by
  induction h with
  | done s => exact .refl s
  | line _ ih => exact (SampleKeeps.of_unitFrame (sampleLine_unitFrame _ _)).trans ih
  | event _ ih => exact (takeButtonEvent_keeps _ _).trans ih
  | @ordered n _ _ s _ _ ih =>
    have hindex : SampleKeeps s { s with orderIndex := n } := ⟨⟨id, id, le_rfl⟩, rfl, fun _ => id⟩
    exact hindex.trans ih

/-! ### What an item of a sample does to the buttons -/

/-- The record of button `i` after an event: a press of it is counted (R119). -/
def ButtonRec.counted (i : Fin 4) (r : ButtonRec) (e : ButtonEvent) : ButtonRec :=
  if e = .press (Button.ofIdx i) then { r with presses := r.presses + 1#8 } else r

/-- The button test after an event: an unlocked press of TSTn begins it, and its release ends it (R119, R120). -/
def testAfter (locked test : Bool) : ButtonEvent → Bool
  | .press .tst => test || !locked
  | .release .tst => false
  | .press .ack | .press .sil | .press .rst | .release .ack | .release .sil | .release .rst => test

/-- What the events of a sample make of the buttons and of the button test. -/
structure ButtonsRun (es : List ButtonEvent) (s t : State) : Prop where
  record : ∀ i : Fin 4, t.buttons[i] = es.foldl (ButtonRec.counted i) s.buttons[i]
  test : t.buttonTest = es.foldl (testAfter (s.locked .tst)) s.buttonTest
  cause : (∃ b, ButtonEvent.press b ∈ es) → t.causes.getLsbD 4 = true

theorem UnitFrame.buttons_eq {s t : State} (h : UnitFrame s t) : t.buttons = s.buttons := by rw [h.frame]
theorem UnitFrame.buttonTest_eq {s t : State} (h : UnitFrame s t) : t.buttonTest = s.buttonTest := by rw [h.frame]
theorem UnitFrame.lockMask_eq {s t : State} (h : UnitFrame s t) : t.lockMask = s.lockMask := by rw [h.frame]
theorem SampleKeeps.lockMask_eq {s t : State} (h : SampleKeeps s t) : t.lockMask = s.lockMask := by rw [h.frame]

@[simp] theorem endButtonTest_buttons (s : State) : s.endButtonTest.buttons = s.buttons := by
  rw [endButtonTest_eq]
  rcases testReleased_cases s with h | h <;> rw [h]
  rfl

@[simp] theorem endButtonTest_buttonTest (s : State) : s.endButtonTest.buttonTest = false := by
  rw [endButtonTest_eq]
  unfold State.testReleased
  split
  next => rfl
  next hoff => simpa using hoff

/-- The action of a press writes no button, and begins the button test where it is TSTn's. -/
theorem buttonAction_buttons (s : State) (b : Button) : (s.buttonAction b).buttons = s.buttons ∧
    (s.buttonAction b).buttonTest = (s.buttonTest || decide (b = .tst)) := by
  have of_unit {t : State} (h : UnitFrame s t) :
      t.buttons = s.buttons ∧ t.buttonTest = (s.buttonTest || false) :=
    ⟨h.buttons_eq, h.buttonTest_eq.trans (Bool.or_false _).symm⟩
  cases b with
  | ack => exact of_unit (actOn_unitFrame s .ack allPoints)
  | sil => exact of_unit (silenceAll_unitFrame s)
  | rst => exact of_unit (actOn_unitFrame s .reset allPoints)
  | tst =>
    refine ⟨?_, (Bool.or_true _).symm⟩
    change s.beginButtonTest.buttons = _
    unfold State.beginButtonTest
    rcases lampTestChime_cases s with h | h <;> rw [h]

theorem pressCounted_record (s : State) (b : Button) (i : Fin 4) :
    (s.pressCounted b).buttons[i] = ButtonRec.counted i s.buttons[i] (.press b) := by
  unfold ButtonRec.counted
  by_cases h : b = Button.ofIdx i
  · subst h
    simp [State.pressCounted, State.setCause, State.refreshAttn, State.setButton, State.button]
  · have hidx : b.idx.val ≠ i.val := fun e => h (by rw [← Button.ofIdx_idx b, Fin.ext e])
    have hne : ButtonEvent.press b ≠ .press (Button.ofIdx i) := fun e => h (ButtonEvent.press.inj e)
    rw [if_neg hne]
    simp [State.pressCounted, State.setCause, State.refreshAttn, State.setButton, Vector.getElem_set_ne, hidx]

theorem takePress_buttons (s : State) (b : Button) : (s.takePress b).buttons = (s.pressCounted b).buttons ∧
    (s.takePress b).buttonTest = testAfter (s.locked .tst) s.buttonTest (.press b) := by
  have hcounted : (s.pressCounted b).buttonTest = s.buttonTest := rfl
  rw [takePress_eq]
  by_cases hlock : s.locked b = true
  · rw [if_pos hlock]
    refine ⟨rfl, ?_⟩
    cases b with
    | tst => simp [testAfter, hlock, hcounted]
    | _ => rfl
  · rw [if_neg hlock]
    obtain ⟨hbuttons, htest⟩ := buttonAction_buttons (s.pressCounted b) b
    refine ⟨hbuttons, htest.trans ?_⟩
    cases b with
    | tst => simp [testAfter, hlock, hcounted]
    | _ => simp [testAfter, hcounted]

theorem takeRelease_buttons (s : State) (b : Button) : (s.takeRelease b).buttons = s.buttons ∧
    (s.takeRelease b).buttonTest = testAfter (s.locked .tst) s.buttonTest (.release b) := by
  unfold State.takeRelease
  split
  next h => subst h; exact ⟨endButtonTest_buttons s, endButtonTest_buttonTest s⟩
  next h =>
    refine ⟨rfl, ?_⟩
    cases b with
    | tst => exact absurd rfl h
    | _ => rfl

theorem takeButtonEvent_record (s : State) (e : ButtonEvent) (i : Fin 4) :
    (s.takeButtonEvent e).buttons[i] = ButtonRec.counted i s.buttons[i] e := by
  cases e with
  | press b =>
    change (s.takePress b).buttons[i] = _
    simp only [(takePress_buttons s b).1, pressCounted_record]
  | release b =>
    change (s.takeRelease b).buttons[i] = _
    simp [(takeRelease_buttons s b).1, ButtonRec.counted]

theorem takeButtonEvent_test (s : State) (e : ButtonEvent) :
    (s.takeButtonEvent e).buttonTest = testAfter (s.locked .tst) s.buttonTest e := by
  cases e with
  | press b => exact (takePress_buttons s b).2
  | release b => exact (takeRelease_buttons s b).2

theorem takePress_cause (s : State) (b : Button) : (s.takePress b).causes.getLsbD 4 = true := by
  have hcounted : (s.pressCounted b).causes.getLsbD 4 = true := by
    simp [State.pressCounted, State.setCause, State.refreshAttn, Cause.bit]
  rw [takePress_eq]
  split
  exacts [hcounted, (buttonAction_keeps _ b).causes 4 hcounted]

theorem SampleRun.buttons {ks : List LineNo} {es : List ButtonEvent} {s t : State} (h : SampleRun ks es s t) :
    ButtonsRun es s t := by
  induction h with
  | done s => exact ⟨fun _ => rfl, rfl, by simp⟩
  | @line k ks es s t _ ih =>
    have hu := sampleLine_unitFrame s k
    have hlocked : (s.sampleLine k).locked .tst = s.locked .tst := by simp only [State.locked, hu.lockMask_eq]
    exact ⟨fun i => by simp only [ih.record i, hu.buttons_eq], by rw [ih.test, hu.buttonTest_eq, hlocked], ih.cause⟩
  | @event e ks es s t hrun ih =>
    have hlocked : (s.takeButtonEvent e).locked .tst = s.locked .tst := by
      simp only [State.locked, (takeButtonEvent_keeps s e).lockMask_eq]
    refine ⟨fun i => ?_, ?_, fun ⟨b, hb⟩ => ?_⟩
    · rw [ih.record i, takeButtonEvent_record, List.foldl_cons]
    · rw [ih.test, takeButtonEvent_test, hlocked, List.foldl_cons]
    · rcases List.mem_cons.1 hb with rfl | hb
      · exact hrun.keeps.causes 4 (takePress_cause s b)
      · exact ih.cause ⟨b, hb⟩
  | ordered n _ ih => exact ⟨ih.record, ih.test, ih.cause⟩

/-! ### The buttons after a sample -/

/-- A fold in which one member of a list without repetitions acts. -/
theorem foldl_of_one {α β : Type} [DecidableEq α] {f : β → α → β} {l : List α} (hl : l.Nodup) (a : α)
    (hf : ∀ x, ∀ b ∈ l, b ≠ a → f x b = x) (x : β) : l.foldl f x = if a ∈ l then f x a else x := by
  induction l generalizing x with
  | nil => rfl
  | cons b l ih =>
    obtain ⟨hb, hl⟩ := List.nodup_cons.1 hl
    rw [List.foldl_cons, ih hl fun x c hc => hf x c (List.mem_cons_of_mem b hc)]
    by_cases h : b = a
    · subst h
      simp [hb]
    · have h' : a ≠ b := fun e => h e.symm
      simp [hf x b (List.mem_cons_self ..) h, h']

theorem acceptedButtons_nodup (s : State) (pins : BitVec 4) : (s.acceptedButtons pins).Nodup :=
  (List.nodup_finRange 4).filter _

theorem mem_acceptedButtons {s : State} {pins : BitVec 4} {i : Fin 4} :
    i ∈ s.acceptedButtons pins ↔ s.buttons[i].accepts (pinPressed pins i) = true := by
  simp [State.acceptedButtons]

@[simp] theorem read_button (s : State) (lines : BitVec 32) (pins : BitVec 4) (i : Fin 4) :
    (s.read lines pins).buttons[i] = s.buttons[i].sampled (pinPressed pins i) := by
  match i with
  | 0 | 1 | 2 | 3 => rfl

variable {s : State} {lines : BitVec 32} {pins : BitVec 4} {i : Fin 4}

theorem takeSample_run (s : State) (lines : BitVec 32) (pins : BitVec 4) :
    SampleRun allLines (s.buttonEvents pins) (s.read lines pins) (s.takeSample lines pins) := by
  rw [takeSample_eq]
  exact runSample_run _ _ _

theorem eventOf_eq_press {b : Button} : eventOf pins i = .press b ↔ pinPressed pins i = true ∧ Button.ofIdx i = b := by
  unfold eventOf
  split <;> simp [*]

theorem Button.ofIdx_inj {i j : Fin 4} : Button.ofIdx i = Button.ofIdx j ↔ i = j :=
  ⟨fun h => by rw [← Button.idx_ofIdx i, h, Button.idx_ofIdx], fun h => h ▸ rfl⟩

theorem takeSample_record : (s.takeSample lines pins).buttons[i] =
    if s.buttons[i].accepts (pinPressed pins i) then
      ButtonRec.counted i (s.buttons[i].sampled (pinPressed pins i)) (eventOf pins i)
    else s.buttons[i].sampled (pinPressed pins i) := by
  rw [(takeSample_run s lines pins).buttons.record i, read_button, State.buttonEvents, List.foldl_map,
    foldl_of_one (acceptedButtons_nodup s pins) i]
  · simp only [mem_acceptedButtons]
  · intro r j _ hj
    have hne : eventOf pins j ≠ .press (Button.ofIdx i) := fun h => hj (Button.ofIdx_inj.1 (eventOf_eq_press.1 h).2)
    exact if_neg hne

theorem testAfter_eventOf_ne (locked test : Bool) (h : i ≠ 3) : testAfter locked test (eventOf pins i) = test := by
  unfold eventOf
  match i with
  | 0 | 1 | 2 => split <;> rfl
  | 3 => exact absurd rfl h

theorem takeSample_test : (s.takeSample lines pins).buttonTest =
    if s.buttons[(3 : Fin 4)].accepts (pinPressed pins 3) then
      testAfter (s.locked .tst) s.buttonTest (eventOf pins 3)
    else s.buttonTest := by
  rw [(takeSample_run s lines pins).buttons.test, State.buttonEvents, List.foldl_map,
    foldl_of_one (acceptedButtons_nodup s pins) 3 fun test j _ hj => testAfter_eventOf_ne _ test hj]
  simp only [mem_acceptedButtons]
  rfl

theorem takeSample_cause (haccepts : s.buttons[i].accepts (pinPressed pins i) = true) (hpin : pinPressed pins i = true) :
    (s.takeSample lines pins).causes.getLsbD 4 = true :=
  (takeSample_run s lines pins).buttons.cause
    ⟨Button.ofIdx i, List.mem_map.2 ⟨i, mem_acceptedButtons.2 haccepts, eventOf_eq_press.2 ⟨hpin, rfl⟩⟩⟩

/-- An accepted level is the level that the debouncer then holds (R117). -/
theorem ButtonRec.sampled_of_accepts {r : ButtonRec} {pressed : Bool} (h : r.accepts pressed = true) :
    r.sampled pressed = { r with pressed := pressed, run := 0 } := by
  obtain ⟨hne, hrun⟩ : pressed ≠ r.pressed ∧ 10 ≤ r.run + 1 := by simpa [ButtonRec.accepts] using h
  rw [ButtonRec.sampled, if_neg hne, if_neg (by omega)]

/-- Settles O52: the record of each button, and the button test, through the events of the sample's run. -/
theorem sampleDebouncesEveryButton : Obligations.SampleDebouncesEveryButton := by
  intro lines pins s t i hexec
  obtain rfl := Host.Outcome.next.inj hexec
  dsimp only
  rw [takeSample_record]
  cases haccepts : s.buttons[i].accepts (pinPressed pins i) with
  | false =>
    refine ⟨rfl, nofun, nofun, nofun, ?_⟩
    rintro - rfl
    rw [takeSample_test, haccepts]
    rfl
  | true =>
    rw [ButtonRec.sampled_of_accepts haccepts]
    refine ⟨?record, fun hpin => takeSample_cause haccepts (by simpa using hpin), ?pressed, ?released, nofun⟩
    case record => cases hpin : pinPressed pins i <;> simp [ButtonRec.counted, eventOf, hpin]
    case pressed =>
      rintro hpin rfl
      have hpin : pinPressed pins 3 = true := by simpa using hpin
      rw [takeSample_test, haccepts, if_pos rfl, eventOf, if_pos hpin]
      rfl
    case released =>
      rintro - hpin rfl
      have hpin : ¬ pinPressed pins 3 = true := by simpa using hpin
      rw [takeSample_test, haccepts, if_pos rfl, eventOf, if_neg hpin]
      rfl

/-! ### The laws of the buttons through a sample (R117, R120, R121) -/

theorem ButtonRec.sampled_run (r : ButtonRec) (pressed : Bool) : (r.sampled pressed).run ≤ 9 := by
  unfold ButtonRec.sampled
  split_ifs with hsame hrun
  · exact Nat.zero_le 9
  · exact Nat.le_of_lt_succ hrun
  · exact Nat.zero_le 9

theorem ButtonRec.sampled_pressed {r : ButtonRec} {pressed : Bool} (h : r.accepts pressed = false) :
    (r.sampled pressed).pressed = r.pressed := by
  unfold ButtonRec.sampled
  split_ifs with hsame hrun
  · rfl
  · rfl
  · have hrun : 10 ≤ r.run + 1 := Nat.le_of_not_lt hrun
    simp [ButtonRec.accepts, hsame, hrun] at h

@[simp] theorem ButtonRec.counted_run (r : ButtonRec) (e : ButtonEvent) : (r.counted i e).run = r.run := by
  unfold ButtonRec.counted
  split <;> rfl

@[simp] theorem ButtonRec.counted_pressed (r : ButtonRec) (e : ButtonEvent) : (r.counted i e).pressed = r.pressed := by
  unfold ButtonRec.counted
  split <;> rfl

theorem takeSample_lockMask : (s.takeSample lines pins).lockMask = s.lockMask :=
  (takeSample_run s lines pins).keeps.lockMask_eq

theorem takeSample_buttonLaw (hb : s.ButtonLaw) : (s.takeSample lines pins).ButtonLaw := by
  obtain ⟨-, htest⟩ := hb
  refine ⟨fun i => ?_, fun h => ?_⟩
  · have hsampled := ButtonRec.sampled_run s.buttons[i] (pinPressed pins i)
    rw [takeSample_record]
    split
    · rwa [ButtonRec.counted_run]
    · exact hsampled
  · have hrecord : (s.takeSample lines pins).button .tst = _ := takeSample_record (s := s) (i := 3)
    have hlocked : (s.takeSample lines pins).locked .tst = s.locked .tst := by
      simp only [State.locked, takeSample_lockMask]
    rw [takeSample_test] at h
    rw [hrecord, hlocked]
    cases haccepts : s.buttons[(3 : Fin 4)].accepts (pinPressed pins 3) with
    | false =>
      rw [haccepts] at h
      obtain ⟨hpressed, hunlocked⟩ := htest h
      exact ⟨(ButtonRec.sampled_pressed haccepts).trans hpressed, hunlocked⟩
    | true =>
      rw [haccepts, if_pos rfl, eventOf] at h
      rw [if_pos rfl, ButtonRec.counted_pressed, ButtonRec.sampled_of_accepts haccepts]
      split at h
      next hpin =>
        refine ⟨hpin, ?_⟩
        cases hlock : s.locked .tst with
        | false => rfl
        | true =>
          have hon : s.buttonTest = true := by simpa [testAfter, hlock, Button.ofIdx] using h
          exact hlock.symm.trans (htest hon).2
      next => cases h

end Sys2Proof.Machine
end

section
/-!
The rules of the whole machine that rest on no law: completion, the laws of the units, LASTERR, the banks, the uptime, and the
configuration in service.
-/

namespace Sys2Proof.Machine

variable {c : Instr} {s t : State}

/-- A step is its command's, or idles. -/
theorem step_cases (h : step s = .next t) : t = s ∨ ∃ c cs, exec c { s with pending := cs } = .next t := by
  unfold step at h
  split at h
  next => exact .inl (Host.Outcome.next.inj h).symm
  next c cs _ => exact .inr ⟨c, cs, h⟩

/-! ### Completion -/

/-- Every command has a next state. -/
theorem exec_completes (c : Instr) (s : State) : ∃ t, exec c s = .next t := by
  by_cases hhost : c.isHostCommand
  · obtain ⟨body, hbody⟩ := isHostCommand_iff.1 hhost
    rw [exec_eq_hostCommand hbody]
    exact hostCommand_next c body s
  · rw [not_isHostCommand_iff] at hhost
    cases c with
    | shortTransaction bytes => exact ⟨_, execShortTransaction_eq bytes s⟩
    | hardReset _ | tick | sample _ _ | frameStart | secondTick | windowBoundary | shelfExpiry | chimeTimerExpiry
    | hostTestTimerExpiry | flashPhaseAdvance | swap | brightnessIntoForce | transactionBegin | transactionEnd =>
      exact ⟨_, rfl⟩
    | _ => cases hhost

/-- A sample leaves what its items leave, after its reading. -/
theorem takeSample_keeps (s : State) (lines : BitVec 32) (pins : BitVec 4) :
    SampleKeeps (s.read lines pins) (s.takeSample lines pins) :=
  (takeSample_run s lines pins).keeps

theorem Act.pending_eq (h : Act c s t) : t.pending = s.pending := by
  cases h with
  | idle => rfl
  | ann h => rw [h.frame.2.1]
  | dev h => rw [h.frame]

/-- Settles O2: the acts, the sample and the reset each leave the queue. -/
theorem everyCommandCompletesAndLeavesTheQueue : Obligations.EveryCommandCompletesAndLeavesTheQueue := by
  intro c s
  obtain ⟨t, ht⟩ := exec_completes c s
  refine ⟨t, ht, ?_⟩
  by_cases hreset : ∃ csLow, c = .hardReset csLow
  · obtain ⟨csLow, rfl⟩ := hreset
    obtain rfl := Host.Outcome.next.inj ht
    rfl
  · by_cases hsample : ∃ lines pins, c = .sample lines pins
    · obtain ⟨lines, pins, rfl⟩ := hsample
      obtain rfl := Host.Outcome.next.inj ht
      rw [(takeSample_keeps s lines pins).frame]
      rfl
    · push Not at hreset hsample
      obtain ⟨l, l', u, hact, rfl⟩ := exec_inv hreset hsample ht
      exact hact.pending_eq

/-! ### What is kept by every act is kept by every row -/

/-- A property of states that rests neither on the link nor on the queue, and that the reset, a sample and every act keep,
is kept by every step. -/
theorem step_keeps {P : State → Prop} (hlink : ∀ {s : State} (l : Link), P s → P { s with link := l })
    (hpending : ∀ {s : State} (cs : List Instr), P s → P { s with pending := cs })
    (hreset : ∀ (s : State) csLow, P s → P (s.hardReset csLow))
    (hsample : ∀ {s : State} lines pins, P s → P (s.takeSample lines pins))
    (hact : ∀ {c : Instr} {s t : State}, Act c s t → P s → P t) (h : step s = .next t) (hs : P s) : P t := by
  rcases step_cases h with rfl | ⟨c, cs, hexec⟩
  · exact hs
  · have hs := hpending cs hs
    by_cases hc : ∃ csLow, c = .hardReset csLow
    · obtain ⟨csLow, rfl⟩ := hc
      obtain rfl := Host.Outcome.next.inj hexec
      exact hreset _ csLow hs
    · by_cases hc' : ∃ lines pins, c = .sample lines pins
      · obtain ⟨lines, pins, rfl⟩ := hc'
        obtain rfl := Host.Outcome.next.inj hexec
        exact hsample lines pins hs
      · push Not at hc hc'
        obtain ⟨l, l', u, hu, rfl⟩ := exec_inv hc hc' hexec
        exact hlink l' (hact hu (hlink l hs))

/-! ### The laws of the units -/

theorem Act.attn (h : Act c s t) (ha : s.AttnLaw) : t.AttnLaw := by
  cases h with
  | idle => exact ha
  | ann h => exact h.frame.1.attn ha
  | dev h => exact h.attn ha

theorem reset_attnLaw : State.reset.AttnLaw := by decide

theorem step_attnLaw (h : step s = .next t) (ha : s.AttnLaw) : t.AttnLaw :=
  step_keeps (P := State.AttnLaw) (fun _ ha => ha) (fun _ ha => ha) (fun _ _ _ => reset_attnLaw)
    (fun {s} lines pins ha => (takeSample_keeps s lines pins).attn ha) (fun h ha => h.attn ha) h ha

theorem AnnAct.button (h : AnnAct c s t) (hb : s.ButtonLaw) : t.ButtonLaw := by
  have hbuttons : t.buttons = s.buttons := by rw [h.frame.2.1]
  have htest : t.buttonTest = s.buttonTest := by rw [h.frame.2.1]
  have hlock : t.lockMask = s.lockMask := by rw [h.frame.2.1]
  unfold State.ButtonLaw State.button State.locked
  rw [hbuttons, htest, hlock]
  exact hb

theorem Act.button (h : Act c s t) (hb : s.ButtonLaw) : t.ButtonLaw := by
  cases h with
  | idle => exact hb
  | ann h => exact h.button hb
  | dev h => exact h.button hb

theorem reset_buttonLaw : State.reset.ButtonLaw := by decide

theorem step_buttonLaw (h : step s = .next t) (hb : s.ButtonLaw) : t.ButtonLaw :=
  step_keeps (P := State.ButtonLaw) (fun _ hb => hb) (fun _ hb => hb) (fun _ _ _ => reset_buttonLaw)
    (fun _ _ hb => takeSample_buttonLaw hb) (fun h hb => h.button hb) h hb

/-- The ranges follow the frame: an act or an item writes of the counted fields only the timers, which it keeps in range. -/
theorem DeviceRangeLaw_of_levels (hk : KeepsLevels s t) (huptime : t.uptime ≤ 0xFFFFFFFE)
    (hlimit : t.chatterLimit = s.chatterLimit) (hreq : t.reqBrightness = s.reqBrightness)
    (hbright : t.brightness = s.brightness) (hr : s.DeviceRangeLaw) : t.DeviceRangeLaw := by
  obtain ⟨-, hlim, hlim15, hchime, htimer, hrange⟩ := hr
  unfold State.DeviceRangeLaw
  rw [hlimit, hreq, hbright]
  exact ⟨huptime, hlim, hlim15, hk.chime hchime, hk.hostTimer.trans htimer, hrange⟩

theorem Act.range (h : Act c s t) (hr : s.DeviceRangeLaw) : t.DeviceRangeLaw := by
  cases h with
  | idle => exact hr
  | ann h =>
    obtain ⟨hlevels, hframe, huptime⟩ := h.frame
    refine DeviceRangeLaw_of_levels hlevels ?_ (by rw [hframe]) (by rw [hframe]) (by rw [hframe]) hr
    rcases huptime with h | ⟨⟨-, h⟩, -⟩
    exacts [h ▸ hr.1, h]
  | dev h => exact h.range hr

theorem takeSample_range (lines : BitVec 32) (pins : BitVec 4) (hr : s.DeviceRangeLaw) :
    (s.takeSample lines pins).DeviceRangeLaw := by
  have hk := takeSample_keeps s lines pins
  have hread : (s.read lines pins).DeviceRangeLaw := hr
  refine DeviceRangeLaw_of_levels hk.toKeepsLevels ?_ (by rw [hk.frame]) (by rw [hk.frame]) (by rw [hk.frame]) hread
  have huptime : (s.takeSample lines pins).uptime = s.uptime := by rw [hk.frame]; rfl
  exact huptime ▸ hr.1

theorem reset_deviceRangeLaw : State.reset.DeviceRangeLaw := by decide

theorem step_deviceRangeLaw (h : step s = .next t) (hr : s.DeviceRangeLaw) : t.DeviceRangeLaw :=
  step_keeps (P := State.DeviceRangeLaw) (fun _ hr => hr) (fun _ hr => hr) (fun _ _ _ => reset_deviceRangeLaw)
    takeSample_range (fun h hr => h.range hr) h hr

/-! ### The host link -/

/-- The link after a row that is no host command: the three edges, the reset, and every other row, which leaves it. -/
theorem exec_link (hhost : ¬ c.isHostCommand) (hshort : ∀ bytes, c ≠ .shortTransaction bytes) (hend : c ≠ .transactionEnd)
    (hbegin : c ≠ .transactionBegin) (hreset : ∀ csLow, c ≠ .hardReset csLow) (h : exec c s = .next t) :
    t.link = s.link := by
  by_cases hsample : ∃ lines pins, c = .sample lines pins
  · obtain ⟨lines, pins, rfl⟩ := hsample
    obtain rfl := Host.Outcome.next.inj h
    rw [(takeSample_keeps s lines pins).frame]
    rfl
  · push Not at hsample
    cases exec_act hhost hshort hend hbegin hreset hsample h with
    | idle => rfl
    | ann h => rw [h.frame.2.1]
    | dev h => rw [h.frame]

/-- A host command in a state that is ready for one leaves the link as its answer says. -/
theorem exec_answered (hc : c.isHostCommand) (hr : s.Ready) (h : exec c s = .next t) :
    ∃ a : Answer, t.link = s.answered c a.result a.data := by
  obtain ⟨body, hbody⟩ := isHostCommand_iff.1 hc
  obtain ⟨l, hl⟩ := hostCommand_ready (c := c) (body := body) hr
  rw [exec_eq_hostCommand hbody, hl] at h
  obtain rfl := Host.Outcome.next.inj h
  exact ⟨_, rfl⟩

/-- In any other state its bytes are ignored (R165, R169). -/
theorem exec_ignored (hc : c.isHostCommand) (hr : ¬ s.Ready) (h : exec c s = .next t) : t = s := by
  obtain ⟨body, hbody⟩ := isHostCommand_iff.1 hc
  rw [exec_eq_hostCommand hbody, hostCommand_ignored (not_ready_iff.1 hr)] at h
  exact (Host.Outcome.next.inj h).symm

theorem raiseCs_linkLaw (h : s.LinkLaw) : s.raiseCs.LinkLaw := by
  obtain ⟨hreceiving, htaken, hidle⟩ := h
  cases hphase : s.link.phase with
  | idle => rw [raiseCs_idle hphase]; exact ⟨hreceiving, htaken, hidle⟩
  | receiving => rw [raiseCs_receiving hphase]; exact ⟨nofun, nofun, fun _ => ⟨rfl, rfl, rfl⟩⟩
  | taken => rw [raiseCs_taken hphase]; exact ⟨nofun, nofun, fun _ => ⟨rfl, rfl, rfl⟩⟩
  | ignored => rw [raiseCs_ignored hphase]; exact ⟨nofun, nofun, fun _ => hidle (.inr hphase)⟩

theorem openTransaction_linkLaw (s : State) : s.openTransaction.LinkLaw :=
  ⟨fun _ => ⟨rfl, rfl, rfl⟩, nofun, fun h => by simp [State.openTransaction] at h⟩

theorem mosiBytes_ne_nil {sent : List Byte} (h : c.mosiBytes = some sent) : sent ≠ [] := by
  rintro rfl
  cases c with
  | _ => cases h

theorem answered_linkLaw {r : Result} {data : List Byte} (hc : c.isHostCommand) (hr : s.Ready) (h : s.LinkLaw) :
    { s with link := s.answered c r data }.LinkLaw := by
  obtain ⟨hreceiving, -, -⟩ := h
  obtain ⟨sent, hsent⟩ := Option.ne_none_iff_exists'.1 hc
  obtain ⟨b, bs, rfl⟩ := List.exists_cons_of_ne_nil (mosiBytes_ne_nil hsent)
  unfold State.answered
  rcases hr with hphase | hphase <;> rw [hphase, hsent]
  · exact ⟨nofun, nofun, fun _ => ⟨rfl, rfl, rfl⟩⟩
  · exact ⟨nofun, fun _ => ⟨(hreceiving hphase).1, rfl, rfl, by simp⟩, by simp⟩

theorem LinkLaw_of_link (h : t.link = s.link) (hs : s.LinkLaw) : t.LinkLaw := by
  unfold State.LinkLaw
  rwa [h]

theorem exec_linkLaw (h : exec c s = .next t) (hs : s.LinkLaw) : t.LinkLaw := by
  by_cases hc : c.isHostCommand
  · by_cases hr : s.Ready
    · obtain ⟨a, ha⟩ := exec_answered hc hr h
      exact LinkLaw_of_link (s := { s with link := s.answered c a.result a.data }) ha (answered_linkLaw hc hr hs)
    · exact exec_ignored hc hr h ▸ hs
  · by_cases hreset : ∃ csLow, c = .hardReset csLow
    · obtain ⟨csLow, rfl⟩ := hreset
      obtain rfl := Host.Outcome.next.inj h
      cases csLow <;> exact ⟨nofun, nofun, fun _ => ⟨rfl, rfl, rfl⟩⟩
    · by_cases hshort : ∃ bytes, c = .shortTransaction bytes
      · obtain ⟨bytes, rfl⟩ := hshort
        obtain rfl := Host.Outcome.next.inj ((execShortTransaction_eq bytes s).symm.trans h)
        split
        · exact raiseCs_linkLaw (openTransaction_linkLaw s)
        · exact raiseCs_linkLaw hs
      · by_cases hend : c = .transactionEnd
        · subst hend
          obtain rfl := Host.Outcome.next.inj h
          exact raiseCs_linkLaw hs
        · by_cases hbegin : c = .transactionBegin
          · subst hbegin
            obtain rfl := Host.Outcome.next.inj h
            exact openTransaction_linkLaw _
          · push Not at hreset hshort
            exact LinkLaw_of_link (exec_link hc hshort hend hbegin hreset h) hs

/-- Settles O6: each law is kept by every act, by the run of a sample, by the reset and by the rows of the link. -/
theorem stepKeepsTheUnitLaws : Obligations.StepKeepsTheUnitLaws := by
  intro s t h
  refine ⟨step_attnLaw h, step_buttonLaw h, step_deviceRangeLaw h, fun hs => ?_⟩
  rcases step_cases h with rfl | ⟨c, cs, hexec⟩
  · exact hs
  · exact exec_linkLaw (s := { s with pending := cs }) hexec hs

/-! ### LASTERR (R167) -/

theorem setsLastErr_eq_false (r : Result) : r.setsLastErr = false ↔ r = .ok ∨ r = .listEnd := by
  cases r <;> simp [Result.setsLastErr]

theorem answered_answer (s : State) (c : Instr) (r : Result) (data : List Byte) :
    (s.answered c r data).answer = some ⟨r, data⟩ ∧ (s.answered c r data).lastErr = r.setsLastErr := by
  unfold State.answered
  cases s.link.phase <;> exact ⟨rfl, rfl⟩

/-- LASTERR stands in bit 3 of the status byte (R168). -/
theorem statusByte_lastErr (s : State) : s.statusByte.getLsbD 3 = s.link.lastErr := statusByte_bit s 3

/-- A falling edge reports the LASTERR that it leaves. -/
theorem beginTransaction_lastErr (s : State) : s.beginTransaction.link.lastErr = s.raiseCs.link.lastErr ∧
    ∃ b, s.beginTransaction.link.status = some b ∧ b.getLsbD 3 = s.raiseCs.link.lastErr := by
  rw [beginTransaction_eq]
  exact ⟨rfl, _, rfl, statusByte_lastErr _⟩

/-- Settles O9: the answers, the edges and the rows that leave the link. -/
theorem lastErrFollowsEachTransaction : Obligations.LastErrFollowsEachTransaction := by
  refine ⟨?answer, ?short, ?ended, ?reset, ?softReset, ?other, ?endedElse, ?begun, ?begunShort, ?ignored⟩
  case answer =>
    intro c s t hc hr h
    obtain ⟨a, ha⟩ := exec_answered hc hr h
    obtain ⟨hanswer, hlast⟩ := answered_answer s c a.result a.data
    rw [ha]
    exact ⟨a, hanswer, by rw [hlast]; exact setsLastErr_eq_false a.result⟩
  case short =>
    intro bytes s t hr h
    obtain rfl := Host.Outcome.next.inj ((execShortTransaction_eq bytes s).symm.trans h)
    rcases hr with hphase | hphase
    · rw [if_pos hphase, raiseCs_lastErr]; rfl
    · rw [if_neg (by rw [hphase]; decide), raiseCs_lastErr, if_pos hphase]
  case ended =>
    intro s t hphase h
    obtain rfl := Host.Outcome.next.inj h
    rw [raiseCs_lastErr, if_pos hphase]
  case reset =>
    intro csLow s t h
    obtain rfl := Host.Outcome.next.inj h
    rfl
  case softReset =>
    intro s t hr h
    obtain ⟨l, hl⟩ := hostCommand_ready (c := .softReset) (body := fun s => accept s.softResetAll []) hr
    obtain rfl := Host.Outcome.next.inj (hl.symm.trans h)
    exact (answered_answer s .softReset .ok []).2
  case other =>
    intro c s t hhost hshort hend hbegin hreset h
    rw [exec_link hhost hshort hend hbegin hreset h]
  case endedElse =>
    intro s t hphase h
    obtain rfl := Host.Outcome.next.inj h
    rw [raiseCs_lastErr, if_neg hphase]
  case begun =>
    intro s t hphase h
    obtain rfl := Host.Outcome.next.inj h
    have hraise : s.raiseCs.link.lastErr = s.link.lastErr := by rw [raiseCs_lastErr, if_neg hphase]
    exact hraise ▸ beginTransaction_lastErr s
  case begunShort =>
    intro s t hphase h
    obtain rfl := Host.Outcome.next.inj h
    have hraise : s.raiseCs.link.lastErr = true := by rw [raiseCs_lastErr, if_pos hphase]
    exact hraise ▸ beginTransaction_lastErr s
  case ignored =>
    intro c s t hc hr h
    rcases hc with hc | ⟨bytes, rfl⟩
    · rw [exec_ignored hc hr h]
    · obtain ⟨hidle, hreceiving⟩ := not_or.1 hr
      obtain rfl := Host.Outcome.next.inj ((execShortTransaction_eq bytes s).symm.trans h)
      rw [if_neg hidle, raiseCs_lastErr, if_neg hreceiving]

/-! ### The banks (R135, R136) -/

/-- Settles O11: of the acts only those of the panel write a bank or a role, and each stands off while a swap is pending. -/
theorem stagingBankStandsWhileSwapPending : Obligations.StagingBankStandsWhileSwapPending := by
  intro c s t h hreset hswap
  by_cases hsample : ∃ lines pins, c = .sample lines pins
  · obtain ⟨lines, pins, rfl⟩ := hsample
    obtain rfl := Host.Outcome.next.inj h
    rw [(takeSample_keeps s lines pins).frame]
    exact ⟨rfl, rfl, .inl ⟨hswap, rfl⟩⟩
  · push Not at hsample
    obtain ⟨l, l', u, hact, rfl⟩ := exec_inv hreset hsample h
    cases hact with
    | idle => exact ⟨rfl, rfl, .inl ⟨hswap, rfl⟩⟩
    | ann h =>
      rw [h.frame.2.1]
      exact ⟨rfl, rfl, .inl ⟨hswap, rfl⟩⟩
    | dev h => exact h.banks hswap

/-! ### The uptime (R154, R155) -/

/-- Settles O58: READ UPTIME's four bytes, and the uptime through the acts. -/
theorem readUptimeReturnsTheUptime : Obligations.ReadUptimeReturnsTheUptime := by
  refine ⟨fun s hr huptime => ⟨bytes4 s.uptime, ?_, rfl, numberOf_bytes4 (by omega)⟩, fun c s t h hreset => ?_⟩
  · exact hostCommand_answered (body := fun s => accept s (bytes4 s.uptime)) (s' := s) (a := ⟨.ok, bytes4 s.uptime⟩) hr
      fun _ => rfl
  · by_cases hsample : ∃ lines pins, c = .sample lines pins
    · obtain ⟨lines, pins, rfl⟩ := hsample
      obtain rfl := Host.Outcome.next.inj h
      rw [(takeSample_keeps s lines pins).frame]
      exact .inl rfl
    · push Not at hsample
      obtain ⟨l, l', u, hact, rfl⟩ := exec_inv hreset hsample h
      cases hact with
      | idle => exact .inl rfl
      | ann h =>
        rcases h.frame.2.2 with hup | ⟨⟨hup, -⟩, hc⟩
        exacts [.inl hup, .inr ⟨hup, hc⟩]
      | dev h => rw [h.frame]; exact .inl rfl

end Sys2Proof.Machine
end

section
/-!
What the answer of a host command says of its effect and of its data (R166, R167, section D).
-/

namespace Sys2Proof.Machine

/-- An answer with the state it goes with, as the catalogue and R166 allow them to the command `c` in the state `s`. -/
structure AnswerFits (c : Instr) (s : State) (out : State × Answer) : Prop where
  state : out.2.result ≠ .ok → out.2.result ≠ .markLost → out.1 = s
  noData : out.2.result ≠ .ok → out.2.data = []
  count : out.2.result = .ok → out.2.data.length = c.dataCount
  listEnd : out.2.result = .listEnd → c = .readEntry ∧ s.cursor = none
  markLost : out.2.result = .markLost → c = .listReturn ∧ s.mark = .lost

/-- The results that a refusal can bear. -/
def Result.IsRefusal (r : Result) : Prop := r ≠ .ok ∧ r ≠ .listEnd ∧ r ≠ .markLost

variable {c : Instr} {s : State}

theorem refuse_fits {r : Result} (h : r.IsRefusal) : AnswerFits c s (refuse r s) where
  state _ _ := rfl
  noData _ := rfl
  count hok := absurd hok h.1
  listEnd hend := absurd hend h.2.1
  markLost hlost := absurd hlost h.2.2

theorem accept_fits {t : State} {data : List Byte} (h : data.length = c.dataCount) :
    AnswerFits c s (accept t data) where
  state hne := absurd rfl hne
  noData hne := absurd rfl hne
  count _ := h
  listEnd := nofun
  markLost := nofun

theorem noSuch_isRefusal : Result.IsRefusal .noSuch := ⟨nofun, nofun, nofun⟩
theorem badValue_isRefusal : Result.IsRefusal .badValue := ⟨nofun, nofun, nofun⟩
theorem busy_isRefusal : Result.IsRefusal .busy := ⟨nofun, nofun, nofun⟩

/-- A scope byte that covers nothing is refused (R47, E.5). -/
theorem scopeOf_error {b : Byte} {r : Result} (h : scopeOf b = .error r) : r.IsRefusal := by
  unfold scopeOf at h
  dsimp only at h
  split at h
  next => split_ifs at h; cases h; exact noSuch_isRefusal
  next => split_ifs at h; cases h; exact noSuch_isRefusal
  next => split_ifs at h; cases h; exact badValue_isRefusal
  next => cases h; exact badValue_isRefusal

/-! ### The commands one by one -/

theorem definePoint_fits (point source options debounce : Byte) :
    AnswerFits (.definePoint point source options debounce) s (s.definePoint point source options debounce) := by
  unfold State.definePoint
  split
  next => exact refuse_fits noSuch_isRefusal
  next =>
    split_ifs
    · exact refuse_fits ⟨nofun, nofun, nofun⟩
    · split
      next => exact refuse_fits badValue_isRefusal
      next => exact accept_fits rfl

theorem placeInService_fits (point : Byte) : AnswerFits (.placeInService point) s (s.placeInService point) := by
  unfold State.placeInService
  split
  next => exact refuse_fits noSuch_isRefusal
  next =>
    split_ifs
    · exact refuse_fits ⟨nofun, nofun, nofun⟩
    · exact refuse_fits ⟨nofun, nofun, nofun⟩
    · exact accept_fits rfl

theorem removeFromService_fits (point : Byte) :
    AnswerFits (.removeFromService point) s (s.removeFromService point) := by
  unfold State.removeFromService
  split
  next => exact refuse_fits noSuch_isRefusal
  next =>
    split_ifs
    · exact accept_fits rfl
    · exact refuse_fits ⟨nofun, nofun, nofun⟩

theorem setClass_fits (point cls : Byte) : AnswerFits (.setClass point cls) s (s.setClass point cls) := by
  unfold State.setClass
  split
  next => exact refuse_fits noSuch_isRefusal
  next =>
    split
    next => exact refuse_fits badValue_isRefusal
    next => exact accept_fits rfl

theorem readPoint_fits (point : Byte) : AnswerFits (.readPoint point) s (s.readPoint point) := by
  unfold State.readPoint
  split
  next => exact refuse_fits noSuch_isRefusal
  next => exact accept_fits rfl

theorem setCondition_fits (point condition : Byte) :
    AnswerFits (.setCondition point condition) s (s.setCondition point condition) := by
  unfold State.setCondition
  split
  next => exact refuse_fits noSuch_isRefusal
  next =>
    split_ifs
    · split
      next => exact refuse_fits badValue_isRefusal
      next => exact accept_fits rfl
    · exact refuse_fits ⟨nofun, nofun, nofun⟩
    · exact refuse_fits ⟨nofun, nofun, nofun⟩

theorem scopedAction_fits (ev : SeqEvent) (scope : Byte) (hc : c.dataCount = 1) :
    AnswerFits c s (s.scopedAction ev scope) := by
  unfold State.scopedAction
  split
  next r h => exact refuse_fits (scopeOf_error h)
  next => exact accept_fits hc.symm

theorem setClassOptions_fits (cls options : Byte) :
    AnswerFits (.setClassOptions cls options) s (s.setClassOptions cls options) := by
  unfold State.setClassOptions
  split
  next => exact refuse_fits noSuch_isRefusal
  next =>
    split
    next => exact refuse_fits badValue_isRefusal
    next => exact accept_fits rfl

theorem setGroupOptions_fits (group options : Byte) :
    AnswerFits (.setGroupOptions group options) s (s.setGroupOptions group options) := by
  unfold State.setGroupOptions
  split
  next => exact refuse_fits noSuch_isRefusal
  next =>
    split
    next => exact refuse_fits badValue_isRefusal
    next => exact accept_fits rfl

theorem readGroup_fits (group : Byte) : AnswerFits (.readGroup group) s (s.readGroup group) := by
  unfold State.readGroup
  split
  next => exact refuse_fits noSuch_isRefusal
  next => exact accept_fits rfl

theorem setChatterLimit_fits (limit : Byte) : AnswerFits (.setChatterLimit limit) s (s.setChatterLimit limit) := by
  unfold State.setChatterLimit
  split
  next => exact refuse_fits badValue_isRefusal
  next => exact accept_fits rfl

theorem listSeek_fits (point : Byte) : AnswerFits (.listSeek point) s (s.listSeek point) := by
  unfold State.listSeek
  split
  next => exact refuse_fits noSuch_isRefusal
  next =>
    split_ifs
    · exact accept_fits rfl
    · exact refuse_fits ⟨nofun, nofun, nofun⟩

/-- LIST_END is READ ENTRY's answer at END, and no refusal (R93). -/
theorem readEntry_fits : AnswerFits .readEntry s s.readEntry := by
  unfold State.readEntry
  split
  next => exact accept_fits rfl
  next hcursor => exact ⟨fun _ _ => rfl, fun _ => rfl, nofun, fun _ => ⟨rfl, hcursor⟩, nofun⟩

/-- MARK_LOST is LIST RETURN's answer from a LOST mark, and moves the cursor (R98). -/
theorem listReturn_fits : AnswerFits .listReturn s s.listReturn := by
  unfold State.listReturn
  split
  next => exact accept_fits rfl
  next => exact accept_fits rfl
  next hmark => exact ⟨fun _ hne => absurd rfl hne, fun _ => rfl, nofun, nofun, fun _ => ⟨rfl, hmark⟩⟩
  next => exact refuse_fits ⟨nofun, nofun, nofun⟩

theorem shelve_fits (point high low : Byte) : AnswerFits (.shelve point high low) s (s.shelve point high low) := by
  unfold State.shelve
  split
  next => exact refuse_fits noSuch_isRefusal
  next =>
    split_ifs
    · exact refuse_fits ⟨nofun, nofun, nofun⟩
    · split
      next => exact refuse_fits badValue_isRefusal
      next =>
        split
        next => exact refuse_fits ⟨nofun, nofun, nofun⟩
        next => exact accept_fits rfl
    · exact refuse_fits ⟨nofun, nofun, nofun⟩

theorem unshelve_fits (point : Byte) : AnswerFits (.unshelve point) s (s.unshelve point) := by
  unfold State.unshelve
  split
  next => exact refuse_fits noSuch_isRefusal
  next =>
    split
    next => exact refuse_fits ⟨nofun, nofun, nofun⟩
    next => exact accept_fits rfl

theorem readShelfSlot_fits (slot : Byte) : AnswerFits (.readShelfSlot slot) s (s.readShelfSlot slot) := by
  unfold State.readShelfSlot
  split
  next => exact refuse_fits noSuch_isRefusal
  next k _ =>
    refine accept_fits ?_
    unfold State.slotData
    split <;> rfl

theorem writeWindow_fits (window entry : Byte) :
    AnswerFits (.writeWindow window entry) s (s.writeWindow window entry) := by
  unfold State.writeWindow
  split
  next => exact refuse_fits noSuch_isRefusal
  next =>
    split
    next => exact refuse_fits badValue_isRefusal
    next =>
      split_ifs
      · exact refuse_fits busy_isRefusal
      · exact accept_fits rfl

theorem readWindow_fits (bank window : Byte) : AnswerFits (.readWindow bank window) s (s.readWindow bank window) := by
  unfold State.readWindow
  split
  next => exact refuse_fits noSuch_isRefusal
  next =>
    split
    next => exact refuse_fits badValue_isRefusal
    next => exact accept_fits rfl
    next => exact accept_fits rfl

theorem swapBanks_fits : AnswerFits .swapBanks s s.swapBanks := by
  unfold State.swapBanks
  split_ifs
  · exact refuse_fits busy_isRefusal
  · exact accept_fits rfl

theorem copyLive_fits : AnswerFits .copyLiveToStaging s s.copyLive := by
  unfold State.copyLive
  split_ifs
  · exact refuse_fits busy_isRefusal
  · split
    next => exact accept_fits rfl
    next => exact accept_fits rfl

theorem setBrightness_fits (brightness : Byte) :
    AnswerFits (.setBrightness brightness) s (s.setBrightness brightness) := by
  unfold State.setBrightness
  split
  next => exact refuse_fits badValue_isRefusal
  next => exact accept_fits rfl

theorem setPanel_fits (enable : Byte) : AnswerFits (.setPanel enable) s (s.setPanel enable) := by
  unfold State.setPanel
  split
  next => exact refuse_fits badValue_isRefusal
  next => exact accept_fits rfl

theorem hostLampTest_fits (value : Byte) : AnswerFits (.lampTest value) s (s.hostLampTest value) := by
  unfold State.hostLampTest
  split
  next => exact refuse_fits badValue_isRefusal
  next => exact accept_fits rfl
  next => exact accept_fits rfl

theorem setButtonLock_fits (mask : Byte) : AnswerFits (.setButtonLock mask) s (s.setButtonLock mask) := by
  unfold State.setButtonLock
  split
  next => exact refuse_fits badValue_isRefusal
  next => exact accept_fits rfl

/-! ### Every host command -/

theorem unitBody_fits {body : State → State × Answer} (h : unitBody c = some body) (s : State) :
    AnswerFits c s (body s) := by
  cases c with
  | hardReset _ | tick | sample _ _ | frameStart | secondTick | windowBoundary | shelfExpiry | chimeTimerExpiry
  | hostTestTimerExpiry | flashPhaseAdvance | swap | brightnessIntoForce | shortTransaction _ | transactionBegin
  | transactionEnd => cases h
  | unknownCommand _ => cases h; exact refuse_fits ⟨nofun, nofun, nofun⟩
  | readUptime | softReset | readLines | silence | listTop | listMark | readListSummary | readPanel | readCauses
  | clearCauses _ | setCauseEnables _ | readButtons => obtain rfl := Option.some.inj h; exact accept_fits rfl
  | definePoint point source options debounce => cases h; exact definePoint_fits point source options debounce
  | placeInService point => cases h; exact placeInService_fits point
  | removeFromService point => cases h; exact removeFromService_fits point
  | setClass point cls => cases h; exact setClass_fits point cls
  | readPoint point => cases h; exact readPoint_fits point
  | setCondition point condition => cases h; exact setCondition_fits point condition
  | acknowledge scope => cases h; exact scopedAction_fits .ack scope rfl
  | resetPoints scope => cases h; exact scopedAction_fits .reset scope rfl
  | setClassOptions cls options => cases h; exact setClassOptions_fits cls options
  | setGroupOptions group options => cases h; exact setGroupOptions_fits group options
  | readGroup group => cases h; exact readGroup_fits group
  | setChatterLimit limit => cases h; exact setChatterLimit_fits limit
  | listSeek point => cases h; exact listSeek_fits point
  | readEntry => cases h; exact readEntry_fits
  | listReturn => cases h; exact listReturn_fits
  | shelve point high low => cases h; exact shelve_fits point high low
  | unshelve point => cases h; exact unshelve_fits point
  | readShelfSlot slot => cases h; exact readShelfSlot_fits slot
  | writeWindow window entry => cases h; exact writeWindow_fits window entry
  | readWindow bank window => cases h; exact readWindow_fits bank window
  | swapBanks => cases h; exact swapBanks_fits
  | copyLiveToStaging => cases h; exact copyLive_fits
  | setBrightness brightness => cases h; exact setBrightness_fits brightness
  | setPanel enable => cases h; exact setPanel_fits enable
  | lampTest value => cases h; exact hostLampTest_fits value
  | setButtonLock mask => cases h; exact setButtonLock_fits mask

/-- Settles O8: the fit of the unit's answer, read through the link. -/
theorem resultsGovernEffectsAndData : Obligations.ResultsGovernEffectsAndData := by
  intro c s t a hc hr hexec ha
  obtain ⟨body, hbody⟩ := isHostCommand_iff.1 hc
  obtain ⟨l, hl⟩ := hostCommand_ready (c := c) (body := body) hr
  rw [exec_eq_hostCommand hbody, hl] at hexec
  obtain rfl := Host.Outcome.next.inj hexec
  have hfits := unitBody_fits hbody { s with link := l }
  obtain ⟨hanswer, hlast⟩ := answered_answer s c (body { s with link := l }).2.result (body { s with link := l }).2.data
  obtain rfl : (body { s with link := l }).2 = a := Option.some.inj (hanswer.symm.trans ha)
  refine ⟨fun hok hlost => ?_, hfits.noData, hfits.count, hlast.trans (setsLastErr_eq_code _), hfits.listEnd,
    hfits.markLost⟩
  rw [hfits.state hok hlost]

/-! ### An accepted change (R24, R26) -/

/-- The record of a point whose change to `cond` has been accepted and counted (R22, R24). -/
def PointRec.counted (r : PointRec) (cond : Condition) : PointRec :=
  { r with line := cond, run := 0, chatterCount := min 15 (r.chatterCount + 1) }

/-- A lockout begun at `p`, with CHATTER (R26, R27). -/
def State.lockedOut (s : State) (p : PointNo) : State :=
  (s.setPoint p { s.point p with lockout := true }).setCause .chatter

theorem acceptChange_eq (s : State) (p : PointNo) (cond : Condition) : s.acceptChange p cond =
    if (s.point p).lockout then s.setPoint p ((s.point p).counted cond)
    else if s.chatterLimit ≠ 0 ∧ s.chatterLimit ≤ ((s.point p).counted cond).chatterCount then
      if (s.point p).eff = .offNormal then (s.setPoint p ((s.point p).counted cond)).lockedOut p
      else ((s.setPoint p ((s.point p).counted cond)).lockedOut p).deliver p .offNormal
    else if (s.point p).eff = cond then s.setPoint p ((s.point p).counted cond)
    else (s.setPoint p ((s.point p).counted cond)).deliver p cond := rfl

/-! ### The configuration of the points (R2, R68) -/

/-- Every point has the configuration it had. -/
def SameConfig (s t : State) : Prop := ∀ q, (t.point q).toPointConfig = (s.point q).toPointConfig

namespace SameConfig

variable {s t u : State}

theorem refl (s : State) : SameConfig s s := fun _ => rfl

theorem trans (h₁ : SameConfig s t) (h₂ : SameConfig t u) : SameConfig s u := fun q => (h₂ q).trans (h₁ q)

theorem foldl {α : Type} {f : State → α → State} (hf : ∀ s a, SameConfig s (f s a)) (l : List α) (s : State) :
    SameConfig s (l.foldl f s) :=
  List.foldlRecOn l f (motive := SameConfig s) (refl s) fun u hu a _ => hu.trans (hf u a)

theorem of_points (h : t.points = s.points) : SameConfig s t := by
  intro q
  unfold State.point
  rw [h]

theorem of_seqRecords (h : SeqRecords s t) : SameConfig s t := h.field_eq (fun r => r.toPointConfig) fun _ => rfl

theorem of_setPoint {p : PointNo} {r : PointRec} (h : r.toPointConfig = (s.point p).toPointConfig) :
    SameConfig s (s.setPoint p r) := by
  intro q
  rw [point_setPoint]
  split
  next hq => rw [hq, h]
  next => rfl

end SameConfig

section

variable (s : State) (p : PointNo)

theorem setSlot_sameConfig (k : SlotNo) (r : Option SlotRec) : SameConfig s (s.setSlot k r) := fun _ => rfl
theorem setGroup_sameConfig (g : GroupNo) (r : GroupRec) : SameConfig s (s.setGroup g r) := fun _ => rfl

theorem softReset_sameConfig : SameConfig s (s.setPoint p (s.point p).softReset) := .of_setPoint rfl

theorem seqEvent_sameConfig (ev : SeqEvent) : SameConfig s (s.seqEvent p ev) := .of_seqRecords (seqEvent_seqRecords s p ev)

theorem arriveIfOffNormal_sameConfig : SameConfig s (s.arriveIfOffNormal p) :=
  .of_seqRecords (arriveIfOffNormal_seqRecords s p)

theorem leaveList_sameConfig : SameConfig s (s.leaveList p) := .of_seqRecords (leaveList_seqRecords s p)

theorem deliver_sameConfig (c : Condition) : SameConfig s (s.deliver p c) :=
  (SameConfig.of_setPoint (r := { s.point p with eff := c }) rfl).trans (seqEvent_sameConfig _ p _)

theorem actOn_sameConfig (ev : SeqEvent) (ps : List PointNo) : SameConfig s (s.actOn ev ps).1 := by
  rw [actOn_eq_foldl]
  exact .foldl (fun s p => seqEvent_sameConfig s p ev) ps s

theorem silenceAll_sameConfig : SameConfig s s.silenceAll := by
  rw [silenceAll_eq_silenced]
  intro q
  simp [State.silenced, State.point]

theorem changeCondition_sameConfig (c : Condition) : SameConfig s (s.changeCondition p c) := by
  unfold State.changeCondition
  split
  · exact .refl s
  · exact (SameConfig.of_setPoint (r := { s.point p with line := c }) rfl).trans (deliver_sameConfig _ p c)

theorem freeSlot_sameConfig (k : SlotNo) : SameConfig s (s.freeSlot k p) :=
  SameConfig.of_setPoint (s := s.setSlot k none) (r := { s.point p with shelf := none }) rfl

theorem takeSlot_sameConfig (k : SlotNo) (n : Nat) : SameConfig s (s.takeSlot k p n) :=
  SameConfig.of_setPoint (s := s.setSlot k (some ⟨p, n⟩)) (r := { s.point p with shelf := some k }) rfl

theorem freeSlotOf_sameConfig : SameConfig s (s.freeSlotOf p) := by
  unfold State.freeSlotOf
  split
  next k _ => exact freeSlot_sameConfig s p k
  next => exact .refl s

theorem shelveNotice_sameConfig : SameConfig s (s.shelveNotice p) := by
  unfold State.shelveNotice
  extract_lets r withRecord
  have hrecord : SameConfig s withRecord := .of_setPoint rfl
  clear_value withRecord
  exact hrecord.trans (leaveList_sameConfig withRecord p)

theorem removePoint_sameConfig : SameConfig s (s.removePoint p) := by
  unfold State.removePoint
  extract_lets freed withRecord
  have hfreed : SameConfig s freed := (leaveList_sameConfig s p).trans (freeSlotOf_sameConfig _ p)
  have hrecord : SameConfig freed withRecord := .of_setPoint rfl
  clear_value withRecord
  exact hfreed.trans hrecord

theorem expireSlot_sameConfig (k : SlotNo) : SameConfig s (s.expireSlot k) := by
  unfold State.expireSlot
  split
  next r _ => exact (freeSlot_sameConfig s r.point k).trans (arriveIfOffNormal_sameConfig _ r.point)
  next => exact .refl s

theorem expireIfDue_sameConfig (k : SlotNo) : SameConfig s (s.expireIfDue k) := by
  unfold State.expireIfDue
  split
  next => split; exacts [expireSlot_sameConfig s k, .refl s]
  next => exact .refl s

theorem shelfSecond_sameConfig : SameConfig s s.shelfSecond := by
  have hcount : SameConfig s s.countDown := SameConfig.foldl (fun s k => setSlot_sameConfig s k _) allSlots s
  exact hcount.trans (.foldl expireIfDue_sameConfig allSlots s.countDown)

theorem beginSecond_sameConfig : SameConfig s s.beginSecond := by
  rw [beginSecond_eq]
  exact .of_points rfl

theorem judgeLine_sameConfig (k : LineNo) : SameConfig s (s.judgeLine k) := by
  unfold State.judgeLine
  split
  next p _ =>
    have hlifted : SameConfig s ((s.setPoint p { s.point p with lockout := false }).setCause .chatter) :=
      SameConfig.of_setPoint (r := { s.point p with lockout := false }) rfl
    unfold State.judgePoint
    dsimp only
    split_ifs
    · exact hlifted.trans (deliver_sameConfig _ p .normal)
    · exact hlifted
    · exact .of_setPoint rfl
  next => exact .refl s

theorem closeWindow_sameConfig : SameConfig s s.closeWindow := .foldl judgeLine_sameConfig allLines s

theorem lockedOut_sameConfig : SameConfig s (s.lockedOut p) :=
  SameConfig.of_setPoint (r := { s.point p with lockout := true }) rfl

theorem acceptChange_sameConfig (c : Condition) : SameConfig s (s.acceptChange p c) := by
  have hcounted : SameConfig s (s.setPoint p ((s.point p).counted c)) := .of_setPoint rfl
  have hlocked : SameConfig s ((s.setPoint p ((s.point p).counted c)).lockedOut p) :=
    hcounted.trans (lockedOut_sameConfig _ p)
  rw [acceptChange_eq]
  split_ifs
  · exact hcounted
  · exact hlocked
  · exact hlocked.trans (deliver_sameConfig _ p _)
  · exact hcounted
  · exact hcounted.trans (deliver_sameConfig _ p c)

theorem sampleLine_sameConfig (k : LineNo) : SameConfig s (s.sampleLine k) := by
  unfold State.sampleLine
  split
  next p _ =>
    unfold State.debouncePoint
    dsimp only
    split_ifs
    · exact .of_setPoint rfl
    · exact .of_setPoint rfl
    · exact acceptChange_sameConfig s p _
  next => exact .refl s

theorem softResetAll_sameConfig : SameConfig s s.softResetAll := by
  have hclear : SameConfig s s.softResetClear := by
    unfold State.softResetClear
    extract_lets withPoints withGroups
    have hpoints : SameConfig s withPoints :=
      .foldl (fun s p => softReset_sameConfig s p) allPoints s
    have hgroups : SameConfig withPoints withGroups := .foldl (fun s g => setGroup_sameConfig s g _) allGroups withPoints
    clear_value withGroups
    exact hpoints.trans hgroups
  exact hclear.trans (.foldl arriveIfOffNormal_sameConfig allPoints _)

end

theorem takeButtonEvent_sameConfig (s : State) (e : ButtonEvent) : SameConfig s (s.takeButtonEvent e) := by
  have haction (u : State) (b : Button) : SameConfig u (u.buttonAction b) := by
    cases b with
    | ack => exact actOn_sameConfig u .ack allPoints
    | sil => exact silenceAll_sameConfig u
    | rst => exact actOn_sameConfig u .reset allPoints
    | tst =>
      change SameConfig u u.beginButtonTest
      unfold State.beginButtonTest
      rcases lampTestChime_cases u with h | h <;> rw [h] <;> exact .of_points rfl
  cases e with
  | press b =>
    change SameConfig s (s.takePress b)
    rw [takePress_eq]
    have hcounted : SameConfig s (s.pressCounted b) := .of_points rfl
    split
    · exact hcounted
    · exact hcounted.trans (haction (s.pressCounted b) b)
  | release b =>
    change SameConfig s (s.takeRelease b)
    unfold State.takeRelease
    split
    · rw [endButtonTest_eq]
      rcases testReleased_cases s with h | h <;> rw [h] <;> exact .of_points rfl
    · exact .refl s

theorem SampleRun.sameConfig {ks : List LineNo} {es : List ButtonEvent} {s t : State} (h : SampleRun ks es s t) :
    SameConfig s t := by
  induction h with
  | done s => exact .refl s
  | line _ ih => exact (sampleLine_sameConfig _ _).trans ih
  | event _ ih => exact (takeButtonEvent_sameConfig _ _).trans ih
  | ordered n _ ih => exact ih

/-- An act moves the configuration of no point, but for SET CLASS, which writes a class, and DEFINE POINT, which writes an
out-of-service point. -/
theorem AnnAct.sameConfig {t : State} (h : AnnAct c s t) : SameConfig s t ∨
    (∃ b₁ b₂ p cls, c = .setClass b₁ b₂ ∧ t = s.changeClass p cls) ∨
    (∃ p cfg, (s.point p).inService = false ∧ t = s.setPoint p { s.point p with toPointConfig := cfg }) := by
  cases h with
  | acted hev ps => exact .inl (actOn_sameConfig s _ ps)
  | silenced => exact .inl (silenceAll_sameConfig s)
  | conditionSet cond hin hsrc => exact .inl (changeCondition_sameConfig s _ cond)
  | @placed _ _ p hout hline =>
    have hset : SameConfig s (s.initialised p) := .of_setPoint rfl
    exact .inl (hset.trans (arriveIfOffNormal_sameConfig _ p))
  | removed hin => exact .inl (removePoint_sameConfig s _)
  | shelved hin hshelf hfree hlo hhi => exact .inl ((takeSlot_sameConfig s _ _ _).trans (shelveNotice_sameConfig _ _))
  | unshelved hshelf => exact .inl ((freeSlot_sameConfig s _ _).trans (arriveIfOffNormal_sameConfig _ _))
  | classChanged p cls => exact .inr (.inl ⟨_, _, p, cls, rfl, rfl⟩)
  | defined hout hlo hhi => exact .inr (.inr ⟨_, _, hout, rfl⟩)
  | optionSet g on => exact .inl (.of_points rfl)
  | listPlaced hq hm => exact .inl (.of_points rfl)
  | classOptionsSet cls o => exact .inl (.of_points rfl)
  | softReset => exact .inl (softResetAll_sameConfig s)
  | secondTaken =>
    refine .inl (((beginSecond_sameConfig s).trans (shelfSecond_sameConfig _)).trans ?_)
    unfold State.takeSecond
    generalize s.beginSecond.shelfSecond = u
    exact .of_points rfl
  | boundaryTaken =>
    have hclose := closeWindow_sameConfig
    unfold State.takeBoundary
    split_ifs
    · exact .inl ((beginSecond_sameConfig s).trans (hclose _))
    · exact .inl (hclose s)
    · exact .inl (.refl s)
  | expiredAhead =>
    unfold State.expireAhead
    split_ifs
    · exact .inl (.refl s)
    · split
      next k _ => exact .inl ((beginSecond_sameConfig s).trans (expireSlot_sameConfig _ k))
      next => exact .inl (.refl s)

/-- The move of an entry writes no record. -/
theorem point_changeClass (s : State) (p q : PointNo) (cls : ClassNo) :
    (s.changeClass p cls).point q = (s.setPoint p { s.point p with cls := cls }).point q := by
  unfold State.changeClass
  dsimp only
  split_ifs <;> rfl

/-- The configuration of a point but for its class. -/
def PointRec.ServiceConfig (r r' : PointRec) : Prop :=
  r'.source = r.source ∧ r'.polarity = r.polarity ∧ r'.debounce = r.debounce ∧ r'.seqType = r.seqType ∧ r'.group = r.group

theorem serviceConfig_of_config {r r' : PointRec} (h : r'.toPointConfig = r.toPointConfig) :
    r.ServiceConfig r' ∧ r'.cls = r.cls := by
  unfold PointRec.ServiceConfig
  rw [h]
  exact ⟨⟨rfl, rfl, rfl, rfl, rfl⟩, rfl⟩

/-- The configuration of an in-service point through one act. -/
theorem Act.serviceConfig {t : State} (h : Act c s t) {p : PointNo} (hin : (s.point p).inService = true) :
    (s.point p).ServiceConfig (t.point p) ∧ ((∀ b₁ b₂, c ≠ .setClass b₁ b₂) → (t.point p).cls = (s.point p).cls) := by
  have of_same (h : (t.point p).toPointConfig = (s.point p).toPointConfig) : (s.point p).ServiceConfig (t.point p) ∧
      ((∀ b₁ b₂, c ≠ .setClass b₁ b₂) → (t.point p).cls = (s.point p).cls) :=
    (serviceConfig_of_config h).imp id fun h _ => h
  cases h with
  | idle => exact of_same rfl
  | ann h =>
    rcases h.sameConfig with h | ⟨b₁, b₂, q, cls, rfl, ht⟩ | ⟨q, cfg, hout, ht⟩
    · exact of_same (h p)
    · refine ⟨?_, fun hc => absurd rfl (hc b₁ b₂)⟩
      rw [ht, point_changeClass, point_setPoint]
      split
      next hq => rw [hq]; exact ⟨rfl, rfl, rfl, rfl, rfl⟩
      next => exact ⟨rfl, rfl, rfl, rfl, rfl⟩
    · have hne : p ≠ q := by
        rintro rfl
        rw [hin] at hout
        cases hout
      exact of_same (by rw [ht, point_setPoint_ne s _ hne])
  | dev h => exact of_same (SameConfig.of_points (by rw [h.frame]) p)

/-- Settles O10: of the acts only those of SET CLASS and DEFINE POINT write a configuration; a sample writes none, and a
hard reset leaves no point in service. -/
theorem configurationIsConstantInService : Obligations.ConfigurationIsConstantInService := by
  intro c s t p h hin hin'
  suffices hconfig : (s.point p).ServiceConfig (t.point p) ∧
      ((∀ b₁ b₂, c ≠ .setClass b₁ b₂) → (t.point p).cls = (s.point p).cls) by
    obtain ⟨⟨hsource, hpolarity, hdebounce, htype, hgroup⟩, hcls⟩ := hconfig
    exact ⟨hsource, hpolarity, hdebounce, htype, hgroup, hcls⟩
  by_cases hreset : ∃ csLow, c = .hardReset csLow
  · obtain ⟨csLow, rfl⟩ := hreset
    obtain rfl := Host.Outcome.next.inj h
    have hout : ((s.hardReset csLow).point p).inService = false := congrArg PointRec.inService (point_reset p)
    rw [hin'] at hout
    cases hout
  · by_cases hsample : ∃ lines pins, c = .sample lines pins
    · obtain ⟨lines, pins, rfl⟩ := hsample
      obtain rfl := Host.Outcome.next.inj h
      exact (serviceConfig_of_config ((takeSample_run s lines pins).sameConfig p)).imp id fun h _ => h
    · push Not at hreset hsample
      obtain ⟨l, l', u, hact, rfl⟩ := exec_inv hreset hsample h
      exact hact.serviceConfig hin

end Sys2Proof.Machine
end

section
/-!
The laws of the annunciation taken apart: those of each record, those that tie records, list, shelf and groups together, and
the range of the shelf's seconds. What a change of a point's state makes of them (R37, R39, R41, R70, R81 to R83, R96).
-/

namespace Sys2Proof.Machine

/-! ### The laws, by what they speak of -/

/-- The laws of one record. -/
structure PointRec.Lawful (r : PointRec) : Prop where
  outOfService : r.OutOfServiceLaw
  condition : r.ConditionLaw
  state : r.StateLaw
  sounding : r.SoundingLaw
  range : r.RangeLaw

/-- The point that a slot holds. -/
def State.holder (s : State) (k : SlotNo) : Option PointNo := (s.slot k).map SlotRec.point

/-- A point is a member of a group on which the group can be HELD (R71). -/
def State.Member (s : State) (g : GroupNo) (p : PointNo) : Prop :=
  (s.point p).group = g ∧ (s.point p).inService = true ∧ (s.point p).shelf = none

/-- The law of one group, by whether it is quiet and by its members (R68, R70, R71). -/
structure GroupRec.Fits (r : GroupRec) (quiet : Bool) (member : PointNo → Prop) : Prop where
  off : r.option = false ↔ r.firstOut = .off
  armed : r.option = true → (r.firstOut = .armed ↔ quiet = true)
  held : ∀ p, r.firstOut = .held p → member p

/-- The laws that tie the records to the list, the shelf and the groups (R4, R11, R68, R71, R81 to R83, R96, R104). -/
structure State.Linked (s : State) : Prop where
  listed : s.ListedLaw
  order : s.ClassOrderLaw
  cursor : s.CursorLaw
  times : s.TimesLaw
  line : s.LineLaw
  shelf : ∀ p k, (s.point p).shelf = some k ↔ s.holder k = some p
  group : ∀ g, (s.groupRec g).Fits (s.groupQuiet g) (s.Member g)
  uptime : s.uptime ≤ 0xFFFFFFFE

/-- The laws of all records, and the ties. -/
structure State.Lawful (s : State) : Prop extends s.Linked where
  records : ∀ p, (s.point p).Lawful

/-- The seconds left in every used slot (R103). -/
def State.SlotRange (s : State) : Prop := ∀ k r, s.slot k = some r → 1 ≤ r.remaining ∧ r.remaining ≤ 86400

theorem holder_eq_some {s : State} {k : SlotNo} {p : PointNo} :
    s.holder k = some p ↔ ∃ r, s.slot k = some r ∧ r.point = p := by simp [State.holder]

theorem recordLaws_iff {s : State} : s.RecordLaws ↔ ∀ p, (s.point p).Lawful :=
  ⟨fun ⟨h₁, h₂, h₃, h₄, h₅⟩ p => ⟨h₁ p, h₂ p, h₃ p, h₄ p, h₅ p⟩,
    fun h => ⟨fun p => (h p).outOfService, fun p => (h p).condition, fun p => (h p).state, fun p => (h p).sounding,
      fun p => (h p).range⟩⟩

theorem groupLaw_iff {s : State} : s.GroupLaw ↔ ∀ g, (s.groupRec g).Fits (s.groupQuiet g) (s.Member g) :=
  ⟨fun h g => ⟨(h g).1, (h g).2.1, (h g).2.2⟩, fun h g => ⟨(h g).off, (h g).armed, (h g).held⟩⟩

theorem shelfLaw_iff {s : State} :
    s.ShelfLaw ↔ (∀ p k, (s.point p).shelf = some k ↔ s.holder k = some p) ∧ s.SlotRange := by
  constructor
  · rintro ⟨hslot, hpoint⟩
    refine ⟨fun p k => ⟨fun h => ?_, fun h => ?_⟩, fun k r h => (hslot k r h).2⟩
    · obtain ⟨r, hr, hp⟩ := (Option.any_eq_true _ _).1 (hpoint p k h)
      exact holder_eq_some.2 ⟨r, hr, by simpa using hp⟩
    · obtain ⟨r, hr, rfl⟩ := holder_eq_some.1 h
      exact (hslot k r hr).1
  · rintro ⟨htie, hrange⟩
    refine ⟨fun k r h => ⟨(htie _ k).2 (holder_eq_some.2 ⟨r, h, rfl⟩), hrange k r h⟩, fun p k h => ?_⟩
    obtain ⟨r, hr, rfl⟩ := holder_eq_some.1 ((htie p k).1 h)
    simp [hr]

theorem annunciationLaws_iff {s : State} : s.AnnunciationLaws ↔ s.Lawful ∧ s.SlotRange := by
  constructor
  · rintro ⟨hrecords, hlisted, horder, hcursor, htimes, hline, hshelf, hgroup, huptime⟩
    obtain ⟨htie, hrange⟩ := shelfLaw_iff.1 hshelf
    exact ⟨⟨⟨hlisted, horder, hcursor, htimes, hline, htie, groupLaw_iff.1 hgroup, huptime⟩, recordLaws_iff.1 hrecords⟩,
      hrange⟩
  · rintro ⟨⟨⟨hlisted, horder, hcursor, htimes, hline, htie, hgroup, huptime⟩, hrecords⟩, hrange⟩
    exact ⟨recordLaws_iff.2 hrecords, hlisted, horder, hcursor, htimes, hline, shelfLaw_iff.2 ⟨htie, hrange⟩,
      groupLaw_iff.2 hgroup, huptime⟩

/-! ### A group by the table of R70 -/

namespace GroupRec.Fits

variable {r : GroupRec} {quiet quiet' : Bool} {m m' : PointNo → Prop} {q : PointNo}

theorem same (h : r.Fits quiet m) (hq : quiet' = quiet) (hm : ∀ p, m p → m' p) : r.Fits quiet' m' :=
  ⟨h.off, hq ▸ h.armed, fun p hp => hm p (h.held p hp)⟩

/-- A member that enters the list as an alert (R70, R71). -/
theorem newAlert (h : r.Fits quiet m) (hm : ∀ p, m p → m' p) (hmq : m' q) :
    GroupRec.Fits { r with firstOut := if r.firstOut = .armed then .held q else r.firstOut } false m' := by
  obtain ⟨hoff, harmed, hheld⟩ := h
  by_cases hf : r.firstOut = .armed
  · have hon : ¬ r.option = false := fun ho => by simp [hoff.1 ho] at hf
    simp only [hf, if_true]
    exact ⟨⟨fun ho => absurd ho hon, nofun⟩, fun _ => ⟨nofun, nofun⟩, fun p hp => by cases hp; exact hmq⟩
  · simp only [hf, if_false]
    exact ⟨hoff, fun _ => ⟨fun h => absurd h hf, nofun⟩, fun p hp => hm p (hheld p hp)⟩

/-- A member that leaves the list by its sequence (R70). -/
theorem leftList (h : r.Fits quiet m) (hq : quiet = true → quiet' = true) (hm : ∀ p, m p → m' p) :
    GroupRec.Fits { r with firstOut := if quiet' = true ∧ r.firstOut ≠ .off then .armed else r.firstOut } quiet' m' := by
  obtain ⟨hoff, harmed, hheld⟩ := h
  by_cases hcond : quiet' = true ∧ r.firstOut ≠ .off
  · rw [if_pos hcond, hcond.1]
    refine ⟨⟨fun ho => absurd (hoff.1 ho) hcond.2, nofun⟩, fun _ => ⟨fun _ => rfl, fun _ => rfl⟩, nofun⟩
  · rw [if_neg hcond]
    refine ⟨hoff, fun hon => ⟨fun hf => hq ((harmed hon).1 hf), fun hquiet => ?_⟩, fun p hp => hm p (hheld p hp)⟩
    have hne : r.firstOut ≠ .off := fun hf => by simp [hoff.2 hf] at hon
    exact absurd ⟨hquiet, hne⟩ hcond

/-- A member that is shelved or removed from service (R70). -/
theorem withdrawn (h : r.Fits quiet m) (hq : quiet = true → quiet' = true) (hm : ∀ p, p ≠ q → m p → m' p) :
    GroupRec.Fits
      { r with firstOut :=
        if r.firstOut = .off then .off else if quiet' = true then .armed
        else if r.firstOut = .held q then .spent else r.firstOut } quiet' m' := by
  obtain ⟨hoff, harmed, hheld⟩ := h
  by_cases hf : r.firstOut = .off
  · simp only [hf, if_true]
    exact ⟨⟨fun _ => rfl, fun _ => hoff.2 hf⟩, fun hon => absurd ((hoff.2 hf).symm.trans hon) nofun, nofun⟩
  · have hon : r.option = true := by simpa using mt hoff.1 hf
    simp only [hf, if_false]
    by_cases hquiet : quiet' = true
    · simp only [hquiet, if_true]
      exact ⟨⟨fun ho => by simp [hon] at ho, nofun⟩, fun _ => ⟨fun _ => rfl, fun _ => rfl⟩, nofun⟩
    · have hna : r.firstOut ≠ .armed := fun ha => hquiet (hq ((harmed hon).1 ha))
      rw [if_neg hquiet]
      by_cases hh : r.firstOut = .held q
      · simp only [hh, if_true]
        exact ⟨⟨fun ho => by simp [hon] at ho, nofun⟩, fun _ => ⟨nofun, fun h => absurd h hquiet⟩, nofun⟩
      · simp only [hh, if_false]
        refine ⟨hoff, fun _ => ⟨fun h => absurd h hna, fun h => absurd h hquiet⟩, fun p hp => hm p ?_ (hheld p hp)⟩
        rintro rfl
        exact hh hp

/-- An option change (R75). -/
theorem optionSet (h : r.Fits quiet m) (on : Bool) :
    GroupRec.Fits ⟨on, optionTable on quiet r.firstOut⟩ quiet m := by
  obtain ⟨hoff, harmed, hheld⟩ := h
  cases on with
  | false => exact ⟨⟨fun _ => rfl, fun _ => rfl⟩, nofun, nofun⟩
  | true =>
    by_cases hf : r.firstOut = .off
    · rw [hf, optionTable_on_of_off]
      cases quiet <;> exact ⟨⟨nofun, nofun⟩, fun _ => by simp, nofun⟩
    · have hon : r.option = true := by simpa using mt hoff.1 hf
      rw [optionTable_on_of_ne_off quiet hf]
      exact ⟨⟨nofun, fun h => absurd h hf⟩, fun _ => harmed hon, hheld⟩

end GroupRec.Fits

/-! ### Reading what is written -/

theorem vector_get_set {α : Type} {n : Nat} (v : Vector α n) (i j : Fin n) (a : α) :
    (v.set i a)[j] = if j = i then a else v[j] := by
  by_cases h : j = i
  · subst h; simp
  · have hv : i.val ≠ j.val := fun e => h (Fin.ext e.symm)
    simp [h, Vector.getElem_set_ne, hv]

theorem mem_withoutEntry {p q : PointNo} {l : List PointNo} : q ∈ withoutEntry p l ↔ q ∈ l ∧ q ≠ p := by
  simp [withoutEntry]

theorem mem_endOfClass {s : State} {p q : PointNo} {c : ClassNo} {l : List PointNo} :
    q ∈ s.endOfClass p c l ↔ q = p ∨ q ∈ l := by
  simp only [State.endOfClass, List.mem_append, List.mem_cons, List.mem_filter, decide_eq_true_eq]
  constructor
  · rintro (⟨h, -⟩ | h | ⟨h, -⟩)
    exacts [.inr h, .inl h, .inr h]
  · rintro (h | h)
    · exact .inr (.inl h)
    · rcases le_or_gt (s.point q).cls c with hc | hc
      exacts [.inl ⟨h, hc⟩, .inr (.inr ⟨h, hc⟩)]

theorem endOfClass_nodup {s : State} {p : PointNo} {c : ClassNo} {l : List PointNo} (hp : p ∉ l) (hl : l.Nodup) :
    (s.endOfClass p c l).Nodup := by
  refine List.nodup_append.2 ⟨hl.filter _, List.nodup_cons.2 ⟨fun h => hp (List.mem_filter.1 h).1, hl.filter _⟩, ?_⟩
  rintro a ha b hb rfl
  obtain ⟨hal, hac⟩ := List.mem_filter.1 ha
  rcases List.mem_cons.1 hb with rfl | hb
  · exact hp hal
  · obtain ⟨-, hac'⟩ := List.mem_filter.1 hb
    simp only [decide_eq_true_eq] at hac hac'
    exact absurd hac (not_le.2 hac')

/-- The list stays in class order with an entry put at the end of its class, whatever class that is (R83). -/
theorem endOfClass_pairwise {s : State} {rank : PointNo → ClassNo} {p : PointNo} {c : ClassNo} {l : List PointNo}
    (hrank : ∀ q ∈ l, rank q = (s.point q).cls) (hp : rank p = c) (hl : l.Pairwise fun a b => rank a ≤ rank b) :
    (s.endOfClass p c l).Pairwise fun a b => rank a ≤ rank b := by
  have hlow (q : PointNo) (h : q ∈ l.filter fun q => decide ((s.point q).cls ≤ c)) : rank q ≤ c := by
    obtain ⟨hq, hc⟩ := List.mem_filter.1 h
    rw [hrank q hq]
    simpa using hc
  have hhigh (q : PointNo) (h : q ∈ l.filter fun q => decide (c < (s.point q).cls)) : c < rank q := by
    obtain ⟨hq, hc⟩ := List.mem_filter.1 h
    rw [hrank q hq]
    simpa using hc
  refine List.pairwise_append.2 ⟨hl.filter _, List.pairwise_cons.2 ⟨fun b hb => ?_, hl.filter _⟩, fun a ha b hb => ?_⟩
  · exact hp ▸ (hhigh b hb).le
  · rcases List.mem_cons.1 hb with rfl | hb
    · exact hp ▸ hlow a ha
    · exact (hlow a ha).trans (hhigh b hb).le

theorem entryAfter_mem {p q : PointNo} {l : List PointNo} (h : entryAfter p l = some q) : q ∈ l :=
  successor_mem ((successor_eq_entryAfter p l).trans h)

theorem entryAfter_ne {p q : PointNo} {l : List PointNo} (hl : l.Nodup) (h : entryAfter p l = some q) : q ≠ p :=
  successor_ne hl ((successor_eq_entryAfter p l).trans h)

theorem quietWith_iff {s : State} {g : GroupNo} {l : List PointNo} :
    s.quietWith g l = true ↔ ∀ q ∈ l, (s.point q).group = g → (s.point q).seqType = .status := by
  simp only [State.quietWith, List.all_eq_true, decide_eq_true_eq]
  exact forall₂_congr fun q _ => ⟨fun h hg => h.resolve_left (not_not_intro hg), fun h => or_iff_not_imp_left.2
    fun hg => h (not_not.1 hg)⟩

theorem groupQuiet_iff {s : State} {g : GroupNo} :
    s.groupQuiet g = true ↔ ∀ q ∈ s.standing, (s.point q).group = g → (s.point q).seqType = .status := by
  rw [groupQuiet_eq_quietWith, quietWith_iff]

end Sys2Proof.Machine
end

section
/-!
What a change of a point's state makes of the laws (R37, R39, R41, R70, R81 to R83, R96): the ties stand, the record stands,
and HORN follows.
-/

namespace Sys2Proof.Machine

section

variable {s t : State} {p q : PointNo} {d : AnnState}

/-! ### The fields of a change that the ties read -/

theorem point_changedTo (s : State) (p : PointNo) (d : AnnState) (q : PointNo) :
    (s.changedTo p d).point q = if q = p then (s.point p).entered d s.uptime else s.point q :=
  vector_get_set s.points p q _

theorem point_changedTo_self (s : State) (p : PointNo) (d : AnnState) :
    (s.changedTo p d).point p = (s.point p).entered d s.uptime := by rw [point_changedTo, if_pos rfl]

theorem point_changedTo_ne (h : q ≠ p) : (s.changedTo p d).point q = s.point q := by rw [point_changedTo, if_neg h]

theorem changedTo_seqRecords (s : State) (p : PointNo) (d : AnnState) : SeqRecords s (s.changedTo p d) := by
  intro q
  by_cases h : q = p
  · rw [h, point_changedTo_self]; rfl
  · rw [point_changedTo_ne h]

/-- The list, the cursor, the mark and the group of a change by which `p` enters the list. -/
theorem changedTo_arrival (hq : (s.point p).state = .quiet) (hd : d ≠ .quiet) :
    (s.changedTo p d).standing = s.endOfClass p (s.point p).cls s.standing ∧
    (s.changedTo p d).cursor = s.cursor ∧ (s.changedTo p d).mark = s.mark ∧
    (s.changedTo p d).groups = s.groups.set (s.point p).group
      { s.groupRec (s.point p).group with firstOut :=
        if d = .alarmNew ∧ (s.groupRec (s.point p).group).firstOut = .armed then .held p
        else (s.groupRec (s.point p).group).firstOut } := by
  simp [State.changedTo, State.withCauses, hq, hd]

/-- The same of a change by which `p` leaves the list. -/
theorem changedTo_return (hq : (s.point p).state ≠ .quiet) :
    (s.changedTo p .quiet).standing = withoutEntry p s.standing ∧
    (s.changedTo p .quiet).cursor = (if s.cursor = some p then entryAfter p s.standing else s.cursor) ∧
    (s.changedTo p .quiet).mark = (if s.mark = Mark.entry p then .lost else s.mark) ∧
    (s.changedTo p .quiet).groups = s.groups.set (s.point p).group
      { s.groupRec (s.point p).group with firstOut :=
        if (s.quietWith (s.point p).group (withoutEntry p s.standing) = true) ∧
          (s.groupRec (s.point p).group).firstOut ≠ .off then .armed
        else (s.groupRec (s.point p).group).firstOut } := by
  simp [State.changedTo, State.withCauses, hq]

/-- The same of a change by which `p` stays on the list. -/
theorem changedTo_other (hq : (s.point p).state ≠ .quiet) (hd : d ≠ .quiet) :
    (s.changedTo p d).standing = s.standing ∧ (s.changedTo p d).cursor = s.cursor ∧
    (s.changedTo p d).mark = s.mark ∧ (s.changedTo p d).groups = s.groups := by
  have hgroup : s.groups.set (s.point p).group (s.groupRec (s.point p).group) = s.groups :=
    congrArg State.groups (setGroup_groupRec s (s.point p).group)
  simp [State.changedTo, State.withCauses, hq, hd, hgroup]

/-! ### The ties -/

/-- What a change of state asks of `p`: it is within reach of the sequence, the state is a new one, and an arrival brings
ALARM-NEW exactly to points that are not STATUS (R42, R43, R44). -/
structure State.MayChange (s : State) (p : PointNo) (d : AnnState) : Prop where
  inService : (s.point p).inService = true
  unshelved : (s.point p).shelf = none
  ne : d ≠ (s.point p).state
  arrival : (s.point p).state = .quiet → (d = .alarmNew ↔ (s.point p).seqType ≠ .status)

/-- A point within reach of the sequence is listed exactly while it is not QUIET (R81). -/
theorem State.Linked.mem_iff (h : s.Linked) (hin : (s.point p).inService = true) (hshelf : (s.point p).shelf = none) :
    p ∈ s.standing ↔ (s.point p).state ≠ .quiet := by simp [h.listed.1, hin, hshelf]

/-- The entries after a change: `p` is among them unless it became QUIET, and of the others none has gone or come. -/
theorem mem_standing_changedTo (h : s.Linked) (hc : s.MayChange p d) (q : PointNo) :
    q ∈ (s.changedTo p d).standing ↔ if q = p then d ≠ .quiet else q ∈ s.standing := by
  have hmem := h.mem_iff hc.inService hc.unshelved
  by_cases hq : (s.point p).state = .quiet
  · have hd : d ≠ .quiet := fun e => hc.ne (e.trans hq.symm)
    rw [(changedTo_arrival hq hd).1, mem_endOfClass]
    by_cases hqp : q = p <;> simp [hqp, hd]
  · by_cases hd : d = .quiet
    · subst hd
      rw [(changedTo_return hq).1, mem_withoutEntry]
      by_cases hqp : q = p <;> simp [hqp]
    · rw [(changedTo_other hq hd).1]
      by_cases hqp : q = p
      · simp [hqp, hd, hmem.2 hq]
      · simp [hqp]

theorem mem_standing_changedTo_ne (h : s.Linked) (hc : s.MayChange p d) (hq : q ≠ p) :
    q ∈ (s.changedTo p d).standing ↔ q ∈ s.standing := by rw [mem_standing_changedTo h hc, if_neg hq]

theorem mem_standing_changedTo_self (h : s.Linked) (hc : s.MayChange p d) :
    p ∈ (s.changedTo p d).standing ↔ d ≠ .quiet := by rw [mem_standing_changedTo h hc, if_pos rfl]

theorem changedTo_listedLaw (h : s.Linked) (hc : s.MayChange p d) : (s.changedTo p d).ListedLaw := by
  obtain ⟨hlisted, hnodup⟩ := h.listed
  refine ⟨fun q => ?_, ?_⟩
  · by_cases hq : q = p
    · subst hq
      rw [mem_standing_changedTo_self h hc, point_changedTo_self]
      exact ⟨fun hd => ⟨hc.inService, hc.unshelved, hd⟩, fun ⟨_, _, hd⟩ => hd⟩
    · rw [mem_standing_changedTo_ne h hc hq, point_changedTo_ne hq]
      exact hlisted q
  · by_cases hq : (s.point p).state = .quiet
    · have hd : d ≠ .quiet := fun e => hc.ne (e.trans hq.symm)
      rw [(changedTo_arrival hq hd).1]
      exact endOfClass_nodup (fun hp => (h.mem_iff hc.inService hc.unshelved).1 hp hq) hnodup
    · by_cases hd : d = .quiet
      · subst hd
        rw [(changedTo_return hq).1]
        exact hnodup.filter _
      · rw [(changedTo_other hq hd).1]
        exact hnodup

theorem changedTo_classOrder (h : s.Linked) (hc : s.MayChange p d) : (s.changedTo p d).ClassOrderLaw := by
  have hcls := (changedTo_seqRecords s p d).cls_eq
  unfold State.ClassOrderLaw
  simp only [hcls]
  by_cases hq : (s.point p).state = .quiet
  · have hd : d ≠ .quiet := fun e => hc.ne (e.trans hq.symm)
    rw [(changedTo_arrival hq hd).1]
    exact endOfClass_pairwise (rank := fun q => (s.point q).cls) (fun _ _ => rfl) rfl h.order
  · by_cases hd : d = .quiet
    · subst hd
      rw [(changedTo_return hq).1]
      exact h.order.filter _
    · rw [(changedTo_other hq hd).1]
      exact h.order

theorem changedTo_cursorLaw (h : s.Linked) (hc : s.MayChange p d) : (s.changedTo p d).CursorLaw := by
  obtain ⟨hcursor, hmark⟩ := h.cursor
  by_cases hq : (s.point p).state = .quiet
  · have hd : d ≠ .quiet := fun e => hc.ne (e.trans hq.symm)
    obtain ⟨hstanding, hcur, hmk, -⟩ := changedTo_arrival hq hd
    unfold State.CursorLaw
    simp only [hstanding, hcur, hmk, mem_endOfClass]
    exact ⟨fun q h => .inr (hcursor q h), fun q h => .inr (hmark q h)⟩
  · by_cases hd : d = .quiet
    · subst hd
      obtain ⟨hstanding, hcur, hmk, -⟩ := changedTo_return hq
      unfold State.CursorLaw
      simp only [hstanding, hcur, hmk, mem_withoutEntry]
      refine ⟨fun q hq' => ?_, fun q hq' => ?_⟩
      · split_ifs at hq' with hp
        · exact ⟨entryAfter_mem hq', entryAfter_ne h.listed.2 hq'⟩
        · exact ⟨hcursor q hq', fun e => hp (e ▸ hq')⟩
      · split_ifs at hq' with hp
        exact ⟨hmark q hq', fun e => hp (e ▸ hq')⟩
    · obtain ⟨hstanding, hcur, hmk, -⟩ := changedTo_other hq hd
      unfold State.CursorLaw
      rw [hstanding, hcur, hmk]
      exact h.cursor

theorem changedTo_timesLaw (h : s.Linked) (hc : s.MayChange p d) : (s.changedTo p d).TimesLaw := by
  have huptime : (s.changedTo p d).uptime = s.uptime := rfl
  intro q
  by_cases hq : q = p
  · subst hq
    obtain ⟨hentry, htime, -⟩ := h.times q
    have hmem := h.mem_iff hc.inService hc.unshelved
    rw [mem_standing_changedTo_self h hc, point_changedTo_self, huptime]
    unfold PointRec.entered
    refine ⟨?_, fun t ht => ?_, fun t ht => ?_⟩
    · by_cases hd : d = .quiet
      · simp [hd]
      · by_cases hquiet : (s.point q).state = .quiet
        · simp [hd, hquiet]
        · simp [hd, hquiet, hentry, hmem]
    · dsimp only at ht
      split_ifs at ht
      · cases ht; exact le_rfl
      · exact htime t ht
    · cases ht; exact le_rfl
  · rw [mem_standing_changedTo_ne h hc hq, point_changedTo_ne hq, huptime]
    exact h.times q

theorem groupRec_of_set {v : GroupRec} {g g' : GroupNo} (h : t.groups = s.groups.set g v) :
    t.groupRec g' = if g' = g then v else s.groupRec g' := by
  unfold State.groupRec
  rw [h]
  exact vector_get_set s.groups g g' v

/-- A group is judged alike where its alerts stand alike on the list. -/
theorem groupQuiet_congr {g : GroupNo} (hgroup : ∀ q, (t.point q).group = (s.point q).group)
    (htype : ∀ q, (t.point q).seqType = (s.point q).seqType)
    (hmem : ∀ q, (s.point q).group = g → (s.point q).seqType ≠ .status → (q ∈ t.standing ↔ q ∈ s.standing)) :
    t.groupQuiet g = s.groupQuiet g := by
  rw [Bool.eq_iff_iff, groupQuiet_iff, groupQuiet_iff]
  simp only [hgroup, htype]
  constructor <;> intro h q hq hg <;> by_contra hs
  · exact hs (h q ((hmem q hg hs).2 hq) hg)
  · exact hs (h q ((hmem q hg hs).1 hq) hg)

theorem changedTo_member (g : GroupNo) : (s.changedTo p d).Member g q ↔ s.Member g q := by
  have hrec := changedTo_seqRecords s p d
  unfold State.Member
  rw [hrec.group_eq, hrec.inService_eq, hrec.shelf_eq]

theorem changedTo_groupLaw (h : s.Linked) (hc : s.MayChange p d) (g : GroupNo) :
    ((s.changedTo p d).groupRec g).Fits ((s.changedTo p d).groupQuiet g) ((s.changedTo p d).Member g) := by
  have hrec := changedTo_seqRecords s p d
  have hmember (q : PointNo) (hm : s.Member g q) : (s.changedTo p d).Member g q := (changedTo_member g).2 hm
  have helsewhere (hg : g ≠ (s.point p).group) : (s.changedTo p d).groupQuiet g = s.groupQuiet g :=
    groupQuiet_congr hrec.group_eq hrec.seqType_eq fun q hq _ =>
      mem_standing_changedTo_ne h hc fun e => hg (by rw [← hq, e])
  by_cases hq : (s.point p).state = .quiet
  · have hd : d ≠ .quiet := fun e => hc.ne (e.trans hq.symm)
    rw [groupRec_of_set (changedTo_arrival hq hd).2.2.2]
    by_cases hg : g = (s.point p).group
    · subst hg
      rw [if_pos rfl]
      by_cases hnew : d = .alarmNew
      · have hloud : (s.changedTo p d).groupQuiet (s.point p).group = false := by
          rw [Bool.eq_false_iff, Ne, groupQuiet_iff]
          intro hall
          have hp := hall p ((mem_standing_changedTo_self h hc).2 hd) (hrec.group_eq p)
          exact (hc.arrival hq).1 hnew ((hrec.seqType_eq p).symm.trans hp)
        simp only [hnew, true_and] at hloud ⊢
        rw [hloud]
        exact (h.group _).newAlert (fun q hm => hnew ▸ hmember q hm)
          ((changedTo_member _).2 ⟨rfl, hc.inService, hc.unshelved⟩)
      · have hstatus : (s.point p).seqType = .status := by
          by_contra hs
          exact hnew ((hc.arrival hq).2 hs)
        simp only [hnew, false_and, if_false]
        refine (h.group _).same (groupQuiet_congr hrec.group_eq hrec.seqType_eq fun q _ hs => ?_) hmember
        exact mem_standing_changedTo_ne h hc fun e => hs (e ▸ hstatus)
    · rw [if_neg hg]
      exact (h.group g).same (helsewhere hg) hmember
  · by_cases hd : d = .quiet
    · subst hd
      rw [groupRec_of_set (changedTo_return hq).2.2.2]
      by_cases hg : g = (s.point p).group
      · subst hg
        rw [if_pos rfl]
        have hquiet : (s.changedTo p .quiet).groupQuiet (s.point p).group =
            s.quietWith (s.point p).group (withoutEntry p s.standing) := by
          rw [groupQuiet_eq_quietWith, hrec.quietWith_eq, (changedTo_return hq).1]
        rw [hquiet]
        refine (h.group _).leftList (fun hall => ?_) hmember
        rw [groupQuiet_iff] at hall
        exact quietWith_iff.2 fun q hmem => hall q (mem_withoutEntry.1 hmem).1
      · rw [if_neg hg]
        exact (h.group g).same (helsewhere hg) hmember
    · obtain ⟨hstanding, -, -, hgroups⟩ := changedTo_other hq hd
      have hgroup : (s.changedTo p d).groupRec g = s.groupRec g := by unfold State.groupRec; rw [hgroups]
      rw [hgroup]
      exact (h.group g).same (groupQuiet_congr hrec.group_eq hrec.seqType_eq fun q _ _ => by rw [hstanding]) hmember

/-- A change of state leaves the ties. -/
theorem State.Linked.changedTo (h : s.Linked) (hc : s.MayChange p d) : (s.changedTo p d).Linked where
  listed := changedTo_listedLaw h hc
  order := changedTo_classOrder h hc
  cursor := changedTo_cursorLaw h hc
  times := changedTo_timesLaw h hc
  line := by
    have hrec := changedTo_seqRecords s p d
    have hsource := hrec.field_eq (fun r => r.source) fun _ => rfl
    unfold State.LineLaw
    simp only [hrec.inService_eq, hsource]
    exact h.line
  shelf q k := by
    rw [(changedTo_seqRecords s p d).shelf_eq]
    exact h.shelf q k
  group := changedTo_groupLaw h hc
  uptime := h.uptime

/-! ### The record -/

/-- The record after a change keeps its laws where the new state is one of the type's and in step with the effective
condition (R37, R39). -/
theorem PointRec.entered_lawful {r : PointRec} {now : Nat} (hin : r.inService = true) (hshelf : r.shelf = none)
    (hcond : r.ConditionLaw) (hrange : r.RangeLaw)
    (hstatus : r.seqType = .status → d = .quiet ∨ d = .alarmAcked) (hself : r.seqType = .selfClearing → d ≠ .ringback)
    (hstep : r.eff = .offNormal ↔ d = .alarmNew ∨ d = .alarmAcked) : (r.entered d now).Lawful where
  outOfService hout := absurd (hin.symm.trans hout) nofun
  condition := hcond
  state := ⟨hstatus, hself, fun _ _ => hstep, fun h => absurd hshelf h⟩
  sounding h := by
    have h : (d == .alarmNew || (d == .clearedNew && r.sounding)) = true := h
    have hd : d = .alarmNew ∨ d = .clearedNew := by
      rcases Bool.or_eq_true_iff.1 h with h | h
      · exact .inl (by simpa using h)
      · exact .inr (by simpa using (Bool.and_eq_true_iff.1 h).1)
    exact ⟨hd, fun hs => by rcases hstatus hs with rfl | rfl <;> simp at hd⟩
  range := by
    obtain ⟨hlo, hhi, hrun, hchatter, hrepeat⟩ := hrange
    refine ⟨hlo, hhi, hrun, hchatter, ?_⟩
    unfold PointRec.entered
    dsimp only
    split_ifs <;> omega

/-! ### HORN (R125) -/

theorem hornWith_iff {points : Vector PointRec 48} : s.hornWith points = true ↔
    ∃ p : PointNo, points[p].sounding = true ∧ s.classOptions[points[p].cls].horn = true := by
  simp [State.hornWith]

/-- HORN follows the flags, the classes of sounding points and their options alone. -/
theorem HornLaw_of_flags (hflag : ∀ q, (t.point q).sounding = (s.point q).sounding)
    (hcls : ∀ q, (s.point q).sounding = true → (t.point q).cls = (s.point q).cls)
    (hoptions : t.classOptions = s.classOptions) (hhorn : t.horn = s.horn) (h : s.HornLaw) : t.HornLaw := by
  unfold State.HornLaw State.classOption at *
  rw [hhorn, hoptions, h]
  refine exists_congr fun q => ?_
  rw [hflag]
  exact and_congr_right fun hq => by rw [hcls q hq]

/-- HORN put at the level of the records as they stand keeps its law. -/
theorem HornLaw_of_hornWith (h : t.horn = t.hornWith t.points) : t.HornLaw := by
  unfold State.HornLaw
  rw [h, hornWith_iff]
  rfl

theorem changedTo_hornLaw (h : s.HornLaw) : (s.changedTo p d).HornLaw := by
  by_cases hflag : ((s.point p).entered d s.uptime).sounding = (s.point p).sounding
  · refine HornLaw_of_flags (fun q => ?_) (fun q _ => (changedTo_seqRecords s p d).cls_eq q) rfl (if_pos hflag) h
    by_cases hq : q = p
    · rw [hq, point_changedTo_self, hflag]
    · rw [point_changedTo_ne hq]
  · exact HornLaw_of_hornWith (if_neg hflag)

end

end Sys2Proof.Machine
end

section
/-!
What the operations of the sequence engine make of the laws: the actions with a scope, the deliveries and the arrivals, each
in the closed form of the outcome it has.
-/

namespace Sys2Proof.Machine

section

variable {s t u : State} {p q : PointNo} {d : AnnState} {c : Condition}

/-! ### Writes that the ties do not read -/

/-- A record with the fields that no tie reads blanked. -/
def PointRec.tie (r : PointRec) : PointRec :=
  { r with
    polarity := .whenClosed, debounce := 0, line := .normal, eff := .normal, sounding := false, chatterCount := 0,
    lockout := false, repeatCount := 0, run := 0 }

theorem tie_field {α : Type} {r r' : PointRec} (h : r'.tie = r.tie) (f : PointRec → α)
    (hf : ∀ r : PointRec, f r.tie = f r) : f r' = f r := by rw [← hf r', h, hf]

/-- The ties rest on what they read of the records, and on list, cursor, mark, slots, groups and uptime. -/
theorem State.Linked.of_ties (h : s.Linked) (htie : ∀ q, (t.point q).tie = (s.point q).tie)
    (hstanding : t.standing = s.standing) (hcursor : t.cursor = s.cursor) (hmark : t.mark = s.mark)
    (hgroups : t.groups = s.groups) (hholder : ∀ k, t.holder k = s.holder k) (huptime : s.uptime ≤ t.uptime)
    (hmax : t.uptime ≤ 0xFFFFFFFE) : t.Linked := by
  have hin (q) : (t.point q).inService = (s.point q).inService := tie_field (htie q) (fun r => r.inService) fun _ => rfl
  have hshelf (q) : (t.point q).shelf = (s.point q).shelf := tie_field (htie q) (fun r => r.shelf) fun _ => rfl
  have hstate (q) : (t.point q).state = (s.point q).state := tie_field (htie q) (fun r => r.state) fun _ => rfl
  have hcls (q) : (t.point q).cls = (s.point q).cls := tie_field (htie q) (fun r => r.cls) fun _ => rfl
  have hentry (q) : (t.point q).entryTime = (s.point q).entryTime := tie_field (htie q) (fun r => r.entryTime) fun _ => rfl
  have hlast (q) : (t.point q).lastChange = (s.point q).lastChange :=
    tie_field (htie q) (fun r => r.lastChange) fun _ => rfl
  have hsource (q) : (t.point q).source = (s.point q).source := tie_field (htie q) (fun r => r.source) fun _ => rfl
  have hgroup (q) : (t.point q).group = (s.point q).group := tie_field (htie q) (fun r => r.group) fun _ => rfl
  have htype (q) : (t.point q).seqType = (s.point q).seqType := tie_field (htie q) (fun r => r.seqType) fun _ => rfl
  have hmember (g q) (hm : s.Member g q) : t.Member g q := by
    unfold State.Member at *
    rwa [hgroup, hin, hshelf]
  constructor
  · simpa only [State.ListedLaw, hstanding, hin, hshelf, hstate] using h.listed
  · simpa only [State.ClassOrderLaw, hstanding, hcls] using h.order
  · simpa only [State.CursorLaw, hstanding, hcursor, hmark] using h.cursor
  · intro q
    obtain ⟨hlisted, htime, hchange⟩ := h.times q
    rw [hentry, hlast, hstanding]
    exact ⟨hlisted, fun t ht => (htime t ht).trans huptime, fun t ht => (hchange t ht).trans huptime⟩
  · simpa only [State.LineLaw, hin, hsource] using h.line
  · intro p k
    rw [hshelf, hholder]
    exact h.shelf p k
  · intro g
    have hrec : t.groupRec g = s.groupRec g := by unfold State.groupRec; rw [hgroups]
    rw [hrec]
    exact (h.group g).same (groupQuiet_congr hgroup htype fun q _ _ => by rw [hstanding]) (hmember g)
  · exact hmax

theorem State.Linked.setPoint {r : PointRec} (h : s.Linked) (htie : r.tie = (s.point p).tie) : (s.setPoint p r).Linked := by
  refine h.of_ties (fun q => ?_) rfl rfl rfl rfl (fun _ => rfl) le_rfl h.uptime
  rw [point_setPoint]
  split
  next hq => rw [hq, htie]
  next => rfl

/-- The laws do not rest on what is not theirs. -/
theorem State.Lawful.of_eq (h : s.Lawful) (hpoints : t.points = s.points) (hstanding : t.standing = s.standing)
    (hcursor : t.cursor = s.cursor) (hmark : t.mark = s.mark) (hgroups : t.groups = s.groups)
    (hslots : t.slots = s.slots) (huptime : t.uptime = s.uptime) : t.Lawful := by
  have hpoint (q) : t.point q = s.point q := by unfold State.point; rw [hpoints]
  have hholder (k) : t.holder k = s.holder k := by unfold State.holder State.slot; rw [hslots]
  refine ⟨h.toLinked.of_ties (fun q => by rw [hpoint]) hstanding hcursor hmark hgroups hholder huptime.ge
    (huptime ▸ h.uptime), fun q => ?_⟩
  rw [hpoint]
  exact h.records q

/-- The laws but for those of the record of `p`. -/
structure State.LawfulBut (s : State) (p : PointNo) : Prop extends s.Linked where
  others : ∀ q, q ≠ p → (s.point q).Lawful

theorem State.Lawful.but (h : s.Lawful) (p : PointNo) : s.LawfulBut p := ⟨h.toLinked, fun q _ => h.records q⟩

theorem State.LawfulBut.lawful (h : s.LawfulBut p) (hp : (s.point p).Lawful) : s.Lawful := by
  refine ⟨h.toLinked, fun q => ?_⟩
  by_cases hq : q = p
  · exact hq ▸ hp
  · exact h.others q hq

theorem State.LawfulBut.setPoint {r : PointRec} (h : s.LawfulBut p) (htie : r.tie = (s.point p).tie) :
    (s.setPoint p r).LawfulBut p := by
  refine ⟨h.toLinked.setPoint htie, fun q hq => ?_⟩
  rw [point_setPoint_ne s r hq]
  exact h.others q hq

theorem State.LawfulBut.changedTo (h : s.LawfulBut p) (hc : s.MayChange p d)
    (hr : ((s.point p).entered d s.uptime).Lawful) : (s.changedTo p d).Lawful := by
  refine ⟨h.toLinked.changedTo hc, fun q => ?_⟩
  by_cases hq : q = p
  · rw [hq, point_changedTo_self]; exact hr
  · rw [point_changedTo_ne hq]; exact h.others q hq

/-! ### What an operation keeps -/

/-- An operation keeps the laws and the law of HORN, and takes no shelf slot. -/
structure KeepsLaws (s t : State) : Prop where
  lawful : s.Lawful → t.Lawful
  horn : s.Lawful → s.HornLaw → t.HornLaw
  slots : ∀ k r, t.slot k = some r → s.slot k = some r

namespace KeepsLaws

theorem refl (s : State) : KeepsLaws s s := ⟨id, fun _ => id, fun _ _ => id⟩

theorem trans (h₁ : KeepsLaws s t) (h₂ : KeepsLaws t u) : KeepsLaws s u where
  lawful h := h₂.lawful (h₁.lawful h)
  horn h hh := h₂.horn (h₁.lawful h) (h₁.horn h hh)
  slots k r h := h₁.slots k r (h₂.slots k r h)

theorem foldl {α : Type} {f : State → α → State} (hf : ∀ s a, KeepsLaws s (f s a)) (l : List α) (s : State) :
    KeepsLaws s (l.foldl f s) :=
  List.foldlRecOn l f (motive := KeepsLaws s) (refl s) fun u hu a _ => hu.trans (hf u a)

/-- A write outside the annunciation. -/
theorem of_eq (hpoints : t.points = s.points) (hstanding : t.standing = s.standing) (hcursor : t.cursor = s.cursor)
    (hmark : t.mark = s.mark) (hgroups : t.groups = s.groups) (hslots : t.slots = s.slots)
    (huptime : t.uptime = s.uptime) (hoptions : t.classOptions = s.classOptions) (hhorn : t.horn = s.horn) :
    KeepsLaws s t where
  lawful h := h.of_eq hpoints hstanding hcursor hmark hgroups hslots huptime
  horn _ h := by
    have hpoint (q) : t.point q = s.point q := by unfold State.point; rw [hpoints]
    exact HornLaw_of_flags (fun q => by rw [hpoint]) (fun q _ => by rw [hpoint]) hoptions hhorn h
  slots k r h := by
    unfold State.slot at *
    rwa [← hslots]

theorem range (h : KeepsLaws s t) (hs : s.SlotRange) : t.SlotRange := fun k r hk => hs k r (h.slots k r hk)

end KeepsLaws

theorem setCause_keepsLaws (s : State) (c : Cause) : KeepsLaws s (s.setCause c) :=
  .of_eq rfl rfl rfl rfl rfl rfl rfl rfl rfl

/-! ### Actions on points (R49 to R51) -/

/-- What an action brings to a point whose state is in step: another state, which keeps the point on its side of
ALARM-NEW and ALARM-ACKED; a QUIET or a STATUS point it does not change (R42, R43, R44). -/
structure PointRec.ActedTo (r : PointRec) (d : AnnState) : Prop where
  notQuiet : r.state ≠ .quiet
  ne : d ≠ r.state
  notStatus : r.seqType ≠ .status
  notRingback : r.seqType = .selfClearing → d ≠ .ringback
  side : (d = .alarmNew ∨ d = .alarmAcked) ↔ (r.state = .alarmNew ∨ r.state = .alarmAcked)

theorem ackState_actedTo {r : PointRec} (h : r.ackState = some d) : r.ActedTo d := by
  unfold PointRec.ackState at h
  split_ifs at h with hstatus hnew hcleared hlatching
  · cases h
    exact ⟨by simp [hnew], by simp [hnew], hstatus, fun _ => nofun, by simp [hnew]⟩
  · cases h
    exact ⟨by simp [hcleared], by simp [hcleared], hstatus, fun h => by simp [hlatching] at h, by simp [hcleared]⟩
  · cases h
    exact ⟨by simp [hcleared], by simp [hcleared], hstatus, fun _ => nofun, by simp [hcleared]⟩

theorem resetState_actedTo {r : PointRec} (h : r.resetState = some d) : r.ActedTo d := by
  unfold PointRec.resetState at h
  split_ifs at h with hrow
  obtain ⟨hlatching, hringback⟩ := hrow
  cases h
  exact ⟨by simp [hringback], by simp [hringback], by simp [hlatching], fun _ => nofun, by simp [hringback]⟩

/-- An action at one point, where `dest` gives the state it brings. -/
def State.actedAt (dest : PointRec → Option AnnState) (s : State) (p : PointNo) : State :=
  match dest (s.point p) with
  | some d => s.changedTo p d
  | none => s

theorem actedOn_eq_foldl (dest : PointRec → Option AnnState) (ps : List PointNo) :
    s.actedOn dest ps = ps.foldl (State.actedAt dest) s := rfl

/-- A point that is not QUIET is within reach of the sequence (R3, R107). -/
theorem State.Lawful.inReach (h : s.Lawful) (hq : (s.point p).state ≠ .quiet) :
    (s.point p).inService = true ∧ (s.point p).shelf = none := by
  obtain ⟨houtOfService, -, ⟨-, -, -, hshelved⟩, -, -⟩ := h.records p
  constructor
  · by_contra hin
    obtain ⟨-, -, hquiet, -⟩ := houtOfService (Bool.eq_false_iff.2 hin)
    exact hq hquiet
  · by_contra hshelf
    exact hq (hshelved hshelf).1

theorem State.Lawful.mem_iff (h : s.Lawful) : p ∈ s.standing ↔ (s.point p).state ≠ .quiet :=
  ⟨fun hp => ((h.listed.1 p).1 hp).2.2, fun hq => (h.listed.1 p).2 ⟨(h.inReach hq).1, (h.inReach hq).2, hq⟩⟩

theorem PointRec.ActedTo.mayChange (ha : (s.point p).ActedTo d) (h : s.Lawful) : s.MayChange p d where
  inService := (h.inReach ha.notQuiet).1
  unshelved := (h.inReach ha.notQuiet).2
  ne := ha.ne
  arrival hq := absurd hq ha.notQuiet

theorem State.Lawful.actedTo (h : s.Lawful) (ha : (s.point p).ActedTo d) : (s.changedTo p d).Lawful := by
  obtain ⟨hin, hshelf⟩ := h.inReach ha.notQuiet
  have hp := h.records p
  obtain ⟨-, -, hstep, -⟩ := hp.state
  exact (h.but p).changedTo (ha.mayChange h) (PointRec.entered_lawful hin hshelf hp.condition hp.range
    (fun hs => absurd hs ha.notStatus) ha.notRingback ((hstep hin hshelf).trans ha.side.symm))

theorem actedAt_keepsLaws {dest : PointRec → Option AnnState} (hdest : ∀ r d, dest r = some d → r.ActedTo d) (s : State)
    (p : PointNo) : KeepsLaws s (State.actedAt dest s p) := by
  unfold State.actedAt
  split
  next d hd => exact ⟨fun h => h.actedTo (hdest _ d hd), fun _ => changedTo_hornLaw, fun _ _ => id⟩
  next => exact .refl s

/-- The events of ACKNOWLEDGE and RESET POINTS, by the states they bring. -/
def SeqEvent.dest : SeqEvent → PointRec → Option AnnState
  | .ack => PointRec.ackState
  | .reset => PointRec.resetState
  | .offNormal | .normal => fun _ => none

theorem SeqEvent.dest_actedTo (ev : SeqEvent) (r : PointRec) (d : AnnState) (h : ev.dest r = some d) : r.ActedTo d := by
  cases ev with
  | ack => exact ackState_actedTo h
  | reset => exact resetState_actedTo h
  | offNormal | normal => cases h

/-- The rows that an action meets are those of its outcome (R42, R43, R44). -/
theorem seqTable_action {ev : SeqEvent} (hev : ev = .ack ∨ ev = .reset) (r : PointRec) :
    (seqTable r.seqType r.state ev).map Transition.dest = ev.dest r := by
  have hack : (seqTable r.seqType r.state .ack).map Transition.dest = r.ackState := by
    unfold PointRec.ackState
    generalize r.seqType = type, r.state = state
    cases type <;> cases state <;> rfl
  have hreset : (seqTable r.seqType r.state .reset).map Transition.dest = r.resetState := by
    unfold PointRec.resetState
    generalize r.seqType = type, r.state = state
    cases type <;> cases state <;> rfl
  rcases hev with rfl | rfl
  exacts [hack, hreset]

/-- In a lawful state an action meets a row exactly where its outcome names a state. -/
theorem transition?_action {ev : SeqEvent} (hev : ev = .ack ∨ ev = .reset) (h : s.Lawful) (p : PointNo) :
    (s.transition? p ev).map Transition.dest = ev.dest (s.point p) := by
  by_cases hq : (s.point p).state = .quiet
  · have hnone : ev.dest (s.point p) = none := by
      by_contra hne
      obtain ⟨d, hd⟩ := Option.ne_none_iff_exists'.1 hne
      exact (SeqEvent.dest_actedTo ev _ d hd).notQuiet hq
    have hrow : (seqTable (s.point p).seqType (s.point p).state ev).map Transition.dest = none :=
      (seqTable_action hev _).trans hnone
    rw [hnone]
    unfold State.transition?
    dsimp only
    split
    · exact hrow
    · rfl
  · obtain ⟨hin, hshelf⟩ := h.inReach hq
    rw [transition?_eq_seqTable hin hshelf, seqTable_action hev]

/-- In a lawful state an action at a point has its outcome. -/
theorem seqEvent_eq_actedAt {ev : SeqEvent} (hev : ev = .ack ∨ ev = .reset) (h : s.Lawful) (p : PointNo) :
    s.seqEvent p ev = State.actedAt ev.dest s p := by
  have hdest := transition?_action hev h p
  unfold State.seqEvent State.actedAt
  cases htr : s.transition? p ev with
  | none =>
    rw [htr] at hdest
    rw [← hdest]
    rfl
  | some tr =>
    rw [htr] at hdest
    have hd : ev.dest (s.point p) = some tr.dest := hdest.symm
    have hq := (SeqEvent.dest_actedTo ev _ _ hd).notQuiet
    obtain ⟨hin, hshelf⟩ := h.inReach hq
    have hrow : seqTable (s.point p).seqType (s.point p).state ev = some tr := by
      rw [← transition?_eq_seqTable hin hshelf, htr]
    rw [hd]
    exact applyTransition_eq_changedTo (seqTable_regular (h.records p).sounding hrow) h.order fun _ => h.mem_iff.2 hq

/-- An action on a set of points has its outcome. -/
theorem actOn_eq_actedOn {ev : SeqEvent} (hev : ev = .ack ∨ ev = .reset) (h : s.Lawful) (ps : List PointNo) :
    (s.actOn ev ps).1 = s.actedOn ev.dest ps := by
  rw [actOn_eq_foldl, actedOn_eq_foldl]
  induction ps generalizing s with
  | nil => rfl
  | cons p ps ih =>
    rw [List.foldl_cons, List.foldl_cons, seqEvent_eq_actedAt hev h]
    exact ih ((actedAt_keepsLaws ev.dest_actedTo s p).lawful h)

theorem actedOn_keepsLaws (ev : SeqEvent) (s : State) (ps : List PointNo) : KeepsLaws s (s.actedOn ev.dest ps) :=
  .foldl (actedAt_keepsLaws ev.dest_actedTo) ps s

theorem actOn_keepsLaws {ev : SeqEvent} (hev : ev = .ack ∨ ev = .reset) (s : State) (ps : List PointNo) :
    KeepsLaws s (s.actOn ev ps).1 where
  lawful h := actOn_eq_actedOn hev h ps ▸ (actedOn_keepsLaws ev s ps).lawful h
  horn h := actOn_eq_actedOn hev h ps ▸ (actedOn_keepsLaws ev s ps).horn h
  slots k r h := by
    have hslots := (actOn_seqFrame s ev ps).slots_eq
    unfold State.slot at *
    rwa [← hslots]

/-! ### SILENCE (R46) -/

theorem point_silenced (s : State) (q : PointNo) : s.silenced.point q = { s.point q with sounding := false } := by
  simp [State.silenced, State.point]

theorem PointRec.Lawful.silenced {r : PointRec} (h : r.Lawful) : PointRec.Lawful { r with sounding := false } := by
  obtain ⟨hout, hcond, ⟨hstatus, hself, hstep, hshelved⟩, -, hrange⟩ := h
  refine ⟨fun ho => ?_, hcond, ⟨hstatus, hself, hstep, fun hs => ⟨(hshelved hs).1, rfl⟩⟩, nofun, hrange⟩
  obtain ⟨h₁, h₂, h₃, h₄, -, h₅⟩ := hout ho
  exact ⟨h₁, h₂, h₃, h₄, rfl, h₅⟩

theorem silenced_keepsLaws (s : State) : KeepsLaws s s.silenced where
  lawful h := by
    refine ⟨h.toLinked.of_ties (fun q => ?_) rfl rfl rfl rfl (fun _ => rfl) le_rfl h.uptime, fun q => ?_⟩
    · rw [point_silenced]; rfl
    · rw [point_silenced]; exact (h.records q).silenced
  horn _ _ := by
    refine ⟨nofun, fun ⟨p, hp, _⟩ => ?_⟩
    rw [point_silenced] at hp
    cases hp
  slots _ _ h := h

/-! ### Deliveries (R23, R45) -/

theorem offNormalState_step (t : SeqType) : t.offNormalState = .alarmNew ∨ t.offNormalState = .alarmAcked := by
  cases t
  exacts [.inl rfl, .inl rfl, .inr rfl]

theorem offNormalState_eq_alarmNew (t : SeqType) : t.offNormalState = .alarmNew ↔ t ≠ .status := by
  cases t <;> simp [SeqType.offNormalState]

theorem offNormalState_ne_quiet (t : SeqType) : t.offNormalState ≠ .quiet := by cases t <;> nofun

/-- What an off-normal notice asks of the record of `p`: it is off-normal within reach of the sequence, and in neither of
the off-normal states. -/
structure PointRec.MayAlarm (r : PointRec) : Prop where
  inService : r.inService = true
  unshelved : r.shelf = none
  offNormal : r.eff = .offNormal
  condition : r.ConditionLaw
  range : r.RangeLaw
  state : ¬ (r.state = .alarmNew ∨ r.state = .alarmAcked)

theorem PointRec.MayAlarm.mayChange (ha : (s.point p).MayAlarm) : s.MayChange p (s.point p).seqType.offNormalState where
  inService := ha.inService
  unshelved := ha.unshelved
  ne e := ha.state (e ▸ offNormalState_step (s.point p).seqType)
  arrival _ := offNormalState_eq_alarmNew _

theorem PointRec.MayAlarm.entered {r : PointRec} (ha : r.MayAlarm) (now : Nat) :
    (r.entered r.seqType.offNormalState now).Lawful := by
  refine PointRec.entered_lawful ha.inService ha.unshelved ha.condition ha.range ?_ ?_
    (iff_of_true ha.offNormal (offNormalState_step r.seqType))
  · intro hs
    rw [hs]
    exact .inr rfl
  · intro hs
    rw [hs]
    nofun

/-- A point off-normal within reach takes the state its off-normal notice brings. -/
theorem State.LawfulBut.offNormal (h : s.LawfulBut p) (ha : (s.point p).MayAlarm) :
    (s.changedTo p (s.point p).seqType.offNormalState).Lawful := h.changedTo ha.mayChange (ha.entered s.uptime)

/-- A point gone normal within reach takes the state its normal notice brings. -/
theorem State.LawfulBut.normal (h : s.LawfulBut p) (hin : (s.point p).inService = true)
    (hshelf : (s.point p).shelf = none) (hoff : (s.point p).eff = .normal) (hcond : (s.point p).ConditionLaw)
    (hrange : (s.point p).RangeLaw) (hlaw : (s.point p).seqType = .status → (s.point p).state ≠ .alarmNew)
    (hstate : (s.point p).state = .alarmNew ∨ (s.point p).state = .alarmAcked) :
    (s.changedTo p (s.point p).normalState).Lawful := by
  have hstep : ¬ ((s.point p).normalState = .alarmNew ∨ (s.point p).normalState = .alarmAcked) := by
    unfold PointRec.normalState
    split_ifs <;> nofun
  have hstep' : (s.point p).eff = .offNormal ↔
      (s.point p).normalState = .alarmNew ∨ (s.point p).normalState = .alarmAcked :=
    iff_of_false (by simp [hoff]) hstep
  refine h.changedTo ⟨hin, hshelf, fun e => hstep (e ▸ hstate), fun hq => by simp [hq] at hstate⟩
    (PointRec.entered_lawful hin hshelf hcond hrange (fun hs => .inl ?_) (fun hs => ?_) hstep')
  · simp [PointRec.normalState, hlaw hs, hs]
  · unfold PointRec.normalState
    split_ifs with hnew hlatching
    · nofun
    · simp [hs] at hlatching
    · nofun

/-- What a delivery asks of the record of `p`: it is in service, in step but for the condition to come, and the condition is
a new one that keeps R3. -/
structure PointRec.MayDeliver (r : PointRec) (c : Condition) : Prop where
  inService : r.inService = true
  ne : r.eff ≠ c
  state : r.StateLaw
  sounding : r.SoundingLaw
  range : r.RangeLaw
  condition : PointRec.ConditionLaw { r with eff := c }

theorem State.LawfulBut.delivered (h : s.LawfulBut p) (hd : (s.point p).MayDeliver c) : (s.delivered p c).Lawful := by
  obtain ⟨hin, hne, ⟨hstatus, hself, hstep, hshelved⟩, hsound, hrange, hcond⟩ := hd
  have hbut : (s.withEff p c).LawfulBut p := h.setPoint rfl
  have hself' := point_withEff s p c
  by_cases hshelf : (s.point p).shelf = none
  · have hstep := hstep hin hshelf
    cases c with
    | offNormal =>
      rw [delivered_offNormal hshelf]
      have htype : ((s.withEff p .offNormal).point p).seqType = (s.point p).seqType := by rw [hself']
      rw [← htype]
      refine hbut.offNormal ?_
      rw [hself']
      exact ⟨hin, hshelf, rfl, hcond, hrange, fun hon => hne (hstep.2 hon)⟩
    | normal =>
      rw [delivered_normal hshelf]
      have hoff : (s.point p).eff = .offNormal := by
        cases heff : (s.point p).eff with
        | normal => exact absurd heff hne
        | offNormal => rfl
      have hnormal : ((s.withEff p .normal).point p).normalState = (s.point p).normalState := by rw [hself']; rfl
      rw [← hnormal]
      refine hbut.normal ?_ ?_ ?_ ?_ ?_ ?_ ?_ <;> rw [hself']
      exacts [hin, hshelf, hcond, hrange, fun hs hnew => by rcases hstatus hs with h | h <;> simp [h] at hnew, hstep.1 hoff]
  · rw [delivered_of_shelved hshelf]
    refine hbut.lawful ?_
    rw [hself']
    exact ⟨fun ho => absurd (hin.symm.trans ho) nofun, hcond, ⟨hstatus, hself, fun _ hs => absurd hs hshelf, hshelved⟩,
      hsound, hrange⟩

theorem setPoint_hornLaw {r : PointRec} (hflag : r.sounding = (s.point p).sounding) (hcls : r.cls = (s.point p).cls)
    (h : s.HornLaw) : (s.setPoint p r).HornLaw := by
  have hself := point_setPoint_self s p r
  refine HornLaw_of_flags (s := s) (fun q => ?_) (fun q _ => ?_) rfl rfl h
  all_goals
    by_cases hq : q = p
    · rw [hq, hself]; assumption
    · rw [point_setPoint_ne s r hq]

theorem delivered_hornLaw (h : s.HornLaw) : (s.delivered p c).HornLaw := by
  have hbase : (s.withEff p c).HornLaw := setPoint_hornLaw rfl rfl h
  by_cases hshelf : (s.point p).shelf = none
  · cases c with
    | offNormal => rw [delivered_offNormal hshelf]; exact changedTo_hornLaw hbase
    | normal => rw [delivered_normal hshelf]; exact changedTo_hornLaw hbase
  · rw [delivered_of_shelved hshelf]; exact hbase

/-- A delivery has its outcome. -/
theorem State.LawfulBut.deliver_eq (h : s.LawfulBut p) (hd : (s.point p).MayDeliver c) :
    s.deliver p c = s.delivered p c :=
  deliver_eq_delivered hd.inService hd.ne hd.state hd.sounding h.order fun hshelf hq =>
    (h.mem_iff hd.inService hshelf).2 hq

/-! ### Arrivals (R13, R65, R66) -/

/-- What an arrival asks of the record of `p`: it has come within reach of the sequence QUIET and silent. -/
structure PointRec.MayArrive (r : PointRec) : Prop where
  inService : r.inService = true
  unshelved : r.shelf = none
  quiet : r.state = .quiet
  silent : r.sounding = false
  condition : r.ConditionLaw
  range : r.RangeLaw

theorem PointRec.MayArrive.mayAlarm {r : PointRec} (ha : r.MayArrive) (hoff : r.eff = .offNormal) : r.MayAlarm :=
  ⟨ha.inService, ha.unshelved, hoff, ha.condition, ha.range, by simp [ha.quiet]⟩

/-- A point that does not arrive is in step already. -/
theorem PointRec.MayArrive.lawful {r : PointRec} (ha : r.MayArrive) (hoff : r.eff ≠ .offNormal) : r.Lawful := by
  obtain ⟨hin, hshelf, hquiet, hsilent, hcond, hrange⟩ := ha
  refine ⟨fun ho => absurd (hin.symm.trans ho) nofun, hcond, ⟨fun _ => .inl hquiet, fun _ => ?_,
    fun _ _ => iff_of_false hoff (by simp [hquiet]), fun hs => absurd hshelf hs⟩, fun hs => ?_, hrange⟩
  · rw [hquiet]; nofun
  · rw [hsilent] at hs; cases hs

theorem State.Linked.arrived (h : s.Linked) (ha : (s.point p).MayArrive) :
    (s.arrived p).Linked ∧ ((s.arrived p).point p).Lawful ∧ ∀ q, q ≠ p → (s.arrived p).point q = s.point q := by
  unfold State.arrived
  split
  next hoff =>
    refine ⟨h.changedTo (ha.mayAlarm hoff).mayChange, ?_, fun q hq => point_changedTo_ne hq⟩
    rw [point_changedTo_self]
    exact (ha.mayAlarm hoff).entered s.uptime
  next hoff => exact ⟨h, ha.lawful hoff, fun _ _ => rfl⟩

theorem State.LawfulBut.arrived (h : s.LawfulBut p) (ha : (s.point p).MayArrive) : (s.arrived p).Lawful := by
  obtain ⟨hlinked, hp, hothers⟩ := h.toLinked.arrived ha
  refine State.LawfulBut.lawful ⟨hlinked, fun q hq => ?_⟩ hp
  rw [hothers q hq]
  exact h.others q hq

theorem arrived_hornLaw (h : s.HornLaw) : (s.arrived p).HornLaw := by
  unfold State.arrived
  split
  exacts [changedTo_hornLaw h, h]

theorem State.LawfulBut.arriveIfOffNormal_eq (h : s.LawfulBut p) (ha : (s.point p).MayArrive) :
    s.arriveIfOffNormal p = s.arrived p :=
  arriveIfOffNormal_eq_arrived ha.inService ha.unshelved ha.quiet ha.silent h.order

theorem SeqFrame.slot_eq (h : SeqFrame s t) (k : SlotNo) : t.slot k = s.slot k := by
  unfold State.slot
  rw [h.slots_eq]

end

end Sys2Proof.Machine
end

section
/-!
The input unit under the laws (R21 to R29, R53): the debouncers and the window boundary have their outcomes, and keep the laws.
-/

namespace Sys2Proof.Machine

section

variable {s t u : State} {p q : PointNo} {c : Condition}

/-! ### A record written, and perhaps a delivery -/

/-- The record of `p` written, with the causes of `bits`. -/
def State.rewritten (s : State) (p : PointNo) (r : PointRec) (bits : Byte) : State := (s.setPoint p r).withCauses bits

theorem point_rewritten_self (s : State) (p : PointNo) (r : PointRec) (bits : Byte) :
    (s.rewritten p r bits).point p = r := point_setPoint_self s p r

theorem point_rewritten_ne {r : PointRec} {bits : Byte} (h : q ≠ p) : (s.rewritten p r bits).point q = s.point q :=
  point_setPoint_ne s r h

theorem rewritten_zero (s : State) (p : PointNo) (r : PointRec) : s.rewritten p r 0#8 = s.setPoint p r :=
  withCauses_zero _

theorem State.LawfulBut.rewritten {r : PointRec} (h : s.LawfulBut p) (htie : r.tie = (s.point p).tie) (bits : Byte) :
    (s.rewritten p r bits).LawfulBut p := by
  have hset := h.setPoint htie
  exact ⟨hset.toLinked.of_ties (fun _ => rfl) rfl rfl rfl rfl (fun _ => rfl) le_rfl h.uptime, hset.others⟩

theorem rewritten_hornLaw {r : PointRec} {bits : Byte} (htie : r.tie = (s.point p).tie)
    (hflag : r.sounding = (s.point p).sounding) (h : s.HornLaw) : (s.rewritten p r bits).HornLaw :=
  HornLaw_of_flags (s := s.setPoint p r) (fun _ => rfl) (fun _ _ => rfl) rfl rfl
    (setPoint_hornLaw hflag (tie_field htie (fun r => r.cls) fun _ => rfl) h)

/-- A write of the record of `p` that no tie reads, and that leaves the flag. -/
theorem KeepsLaws.rewritten {r : PointRec} (htie : r.tie = (s.point p).tie) (hflag : r.sounding = (s.point p).sounding)
    (hr : s.Lawful → r.Lawful) (bits : Byte) : KeepsLaws s (s.rewritten p r bits) where
  lawful h := ((h.but p).rewritten htie bits).lawful (by rw [point_rewritten_self]; exact hr h)
  horn _ h := rewritten_hornLaw htie hflag h
  slots _ _ h := h

/-- The same with a delivery after it. -/
theorem KeepsLaws.rewritten_deliver {r : PointRec} (htie : r.tie = (s.point p).tie)
    (hflag : r.sounding = (s.point p).sounding) (hr : s.Lawful → r.MayDeliver c) (bits : Byte) :
    KeepsLaws s ((s.rewritten p r bits).deliver p c) := by
  have hself := point_rewritten_self s p r bits
  have hbut (h : s.Lawful) := (h.but p).rewritten htie bits
  have hmay (h : s.Lawful) : ((s.rewritten p r bits).point p).MayDeliver c := by rw [hself]; exact hr h
  refine ⟨fun h => ?_, fun h hh => ?_, fun k r hk => ?_⟩
  · rw [(hbut h).deliver_eq (hmay h)]
    exact (hbut h).delivered (hmay h)
  · rw [(hbut h).deliver_eq (hmay h)]
    exact delivered_hornLaw (rewritten_hornLaw htie hflag hh)
  · rw [(deliver_seqFrame _ p c).slot_eq] at hk
    exact hk

/-! ### SET CONDITION (R53) -/

theorem PointRec.Lawful.mayDeliver_line {r : PointRec} (h : r.Lawful) (hin : r.inService = true) (hsrc : r.source = .host)
    (hne : r.line ≠ c) : PointRec.MayDeliver { r with line := c } c := by
  obtain ⟨-, hopen, hhost⟩ := h.condition
  obtain ⟨hchatter, hlockout, hrun⟩ := hhost hsrc
  refine ⟨hin, ?_, h.state, h.sounding, h.range, fun hl => ?_, fun _ => rfl, fun _ => ⟨hchatter, hlockout, hrun⟩⟩
  · exact fun heff => hne ((hopen hlockout).symm.trans heff)
  · exact absurd (hlockout.symm.trans hl) nofun

theorem changeCondition_keepsLaws (hin : (s.point p).inService = true) (hsrc : (s.point p).source = .host)
    (c : Condition) : KeepsLaws s (s.changeCondition p c) := by
  by_cases hne : (s.point p).line = c
  · rw [changeCondition_same hne]
    exact .refl s
  · rw [State.changeCondition, if_neg hne, ← rewritten_zero]
    exact .rewritten_deliver (r := { s.point p with line := c }) rfl rfl (fun h => (h.records p).mayDeliver_line hin hsrc hne) 0#8

/-! ### The debouncers (R22 to R27) -/

/-- The record of a point after a sample that reads `c`, with the effective condition still as it was. -/
def PointRec.read (r : PointRec) (limit : Nat) (c : Condition) : PointRec := { r.sampled limit c with eff := r.eff }

/-- The bit of CHATTER where a sample that reads `c` begins a lockout (R26). -/
def PointRec.chatterBits (r : PointRec) (limit : Nat) (c : Condition) : Byte :=
  if r.lockout = false ∧ (r.sampled limit c).lockout = true then 0x08#8 else 0#8

section

variable {r : PointRec} {limit : Nat}

theorem sampled_of_accepts (h : r.accepts c = true) : r.sampled limit c =
    { r.counted c with
      lockout := r.lockout || decide (limit ≠ 0 ∧ limit ≤ (r.counted c).chatterCount)
      eff := if r.lockout || decide (limit ≠ 0 ∧ limit ≤ (r.counted c).chatterCount) then .offNormal else c } :=
  if_pos h

theorem sampled_of_locked (h : r.accepts c = true) (hl : r.lockout = true) :
    r.sampled limit c = { r.counted c with lockout := true, eff := .offNormal } := by
  rw [sampled_of_accepts h, hl]
  rfl

theorem sampled_of_limit (h : r.accepts c = true) (hlimit : limit ≠ 0 ∧ limit ≤ (r.counted c).chatterCount) :
    r.sampled limit c = { r.counted c with lockout := true, eff := .offNormal } := by
  rw [sampled_of_accepts h, decide_eq_true hlimit, Bool.or_true]
  rfl

theorem sampled_of_free (h : r.accepts c = true) (hl : r.lockout = false)
    (hlimit : ¬ (limit ≠ 0 ∧ limit ≤ (r.counted c).chatterCount)) :
    r.sampled limit c = { r.counted c with lockout := false, eff := c } := by
  rw [sampled_of_accepts h, hl, decide_eq_false hlimit]
  rfl

theorem sampled_of_not_accepts (h : r.accepts c = false) : r.sampled limit c =
    { r with run := if c = r.line then 0 else r.run + 1 } := if_neg (by simp [h])

theorem accepts_iff : r.accepts c = true ↔ c ≠ r.line ∧ r.debounce ≤ r.run + 1 := by simp [PointRec.accepts]

theorem sampled_tie : (r.sampled limit c).tie = r.tie := by
  cases h : r.accepts c with
  | true => rw [sampled_of_accepts h]; rfl
  | false => rw [sampled_of_not_accepts h]; rfl

theorem read_tie : (r.read limit c).tie = r.tie := sampled_tie (r := r)

theorem sampled_sounding : (r.sampled limit c).sounding = r.sounding := by
  cases h : r.accepts c with
  | true => rw [sampled_of_accepts h]; rfl
  | false => rw [sampled_of_not_accepts h]

theorem sampled_condition (h : r.Lawful) (hsrc : r.source ≠ .host) : (r.sampled limit c).ConditionLaw := by
  obtain ⟨hlocked, hopen, hhost⟩ := h.condition
  cases ha : r.accepts c with
  | true =>
    rw [sampled_of_accepts ha]
    refine ⟨fun hl => if_pos hl, fun hl => ?_, fun hh => absurd hh hsrc⟩
    dsimp only at hl ⊢
    rw [hl]
    rfl
  | false =>
    rw [sampled_of_not_accepts ha]
    exact ⟨hlocked, hopen, fun hh => absurd hh hsrc⟩

theorem sampled_range (h : r.RangeLaw) : (r.sampled limit c).RangeLaw := by
  obtain ⟨hlo, hhi, hrun, hchatter, hrepeat⟩ := h
  cases ha : r.accepts c with
  | true =>
    rw [sampled_of_accepts ha]
    exact ⟨hlo, hhi, hlo, Nat.min_le_left _ _, hrepeat⟩
  | false =>
    rw [sampled_of_not_accepts ha]
    refine ⟨hlo, hhi, ?_, hchatter, hrepeat⟩
    dsimp only
    split_ifs with hc
    · exact hlo
    · have hnot : ¬ r.debounce ≤ r.run + 1 := fun hd => by simp [accepts_iff.2 ⟨hc, hd⟩] at ha
      omega

theorem sampled_stateLaw (h : r.StateLaw) (heff : (r.sampled limit c).eff = r.eff) : (r.sampled limit c).StateLaw := by
  have htie := sampled_tie (r := r) (limit := limit) (c := c)
  have hstate := tie_field htie (fun r => r.state) fun _ => rfl
  have htype := tie_field htie (fun r => r.seqType) fun _ => rfl
  have hin := tie_field htie (fun r => r.inService) fun _ => rfl
  have hshelf := tie_field htie (fun r => r.shelf) fun _ => rfl
  unfold PointRec.StateLaw
  rw [hstate, htype, hin, hshelf, heff, sampled_sounding]
  exact h

theorem sampled_soundingLaw (h : r.SoundingLaw) : (r.sampled limit c).SoundingLaw := by
  have htie := sampled_tie (r := r) (limit := limit) (c := c)
  have hstate := tie_field htie (fun r => r.state) fun _ => rfl
  have htype := tie_field htie (fun r => r.seqType) fun _ => rfl
  unfold PointRec.SoundingLaw
  rw [hstate, htype, sampled_sounding]
  exact h

theorem sampled_inService : (r.sampled limit c).inService = r.inService :=
  tie_field sampled_tie (fun r => r.inService) fun _ => rfl

theorem sampled_lawful (h : r.Lawful) (hin : r.inService = true) (hsrc : r.source ≠ .host)
    (heff : (r.sampled limit c).eff = r.eff) : (r.sampled limit c).Lawful where
  outOfService ho := absurd ((sampled_inService.trans hin).symm.trans ho) nofun
  condition := sampled_condition h hsrc
  state := sampled_stateLaw h.state heff
  sounding := sampled_soundingLaw h.sounding
  range := sampled_range h.range

theorem read_mayDeliver (h : r.Lawful) (hin : r.inService = true) (hsrc : r.source ≠ .host)
    (heff : (r.sampled limit c).eff ≠ r.eff) : (r.read limit c).MayDeliver (r.sampled limit c).eff where
  inService := sampled_inService.trans hin
  ne := fun h => heff h.symm
  state := by
    have htie := sampled_tie (r := r) (limit := limit) (c := c)
    have hstate := tie_field htie (fun r => r.state) fun _ => rfl
    have htype := tie_field htie (fun r => r.seqType) fun _ => rfl
    have hshelf := tie_field htie (fun r => r.shelf) fun _ => rfl
    unfold PointRec.StateLaw PointRec.read
    dsimp only
    rw [hstate, htype, sampled_inService, hshelf, sampled_sounding]
    exact h.state
  sounding := sampled_soundingLaw h.sounding
  range := sampled_range h.range
  condition := sampled_condition h hsrc

end

/-- A sample of `p` that reads `c`, as the model takes it: the record, CHATTER, and the delivery where the effective
condition changes. -/
def State.sampledAt (s : State) (p : PointNo) (c : Condition) : State :=
  let r := s.point p
  let s' := s.rewritten p (r.read s.chatterLimit c) (r.chatterBits s.chatterLimit c)
  if (r.sampled s.chatterLimit c).eff = r.eff then s' else s'.deliver p (r.sampled s.chatterLimit c).eff

theorem lockedOut_setPoint (s : State) (p : PointNo) (r : PointRec) :
    (s.setPoint p r).lockedOut p = s.rewritten p { r with lockout := true } 0x08#8 := by
  unfold State.lockedOut State.rewritten
  rw [setCause_eq_withCauses, point_setPoint_self]
  simp only [State.setPoint, Vector.set_set, Cause.bit]

/-- The debouncer of a point whose conditions keep R3. -/
theorem debouncePoint_eq_sampledAt (hcond : (s.point p).ConditionLaw) : s.debouncePoint p c = s.sampledAt p c := by
  obtain ⟨hlocked, hopen, -⟩ := hcond
  unfold State.sampledAt PointRec.read PointRec.chatterBits
  dsimp only
  by_cases ha : (s.point p).accepts c = true
  · obtain ⟨hne, hrun⟩ := accepts_iff.1 ha
    have hdebounce : s.debouncePoint p c = s.acceptChange p c := by
      unfold State.debouncePoint
      dsimp only
      rw [if_neg hne, if_neg (by omega)]
    rw [hdebounce, acceptChange_eq]
    cases hl : (s.point p).lockout with
    | true =>
      have heff := hlocked hl
      rw [sampled_of_locked ha hl, if_pos rfl, if_pos heff.symm, if_neg nofun, rewritten_zero]
      simp [PointRec.counted, hl]
    | false =>
      rw [if_neg nofun]
      by_cases hlimit : s.chatterLimit ≠ 0 ∧ s.chatterLimit ≤ ((s.point p).counted c).chatterCount
      · rw [sampled_of_limit ha hlimit, if_pos hlimit, lockedOut_setPoint]
        by_cases hoff : (s.point p).eff = .offNormal
        · rw [if_pos hoff, if_pos hoff.symm, if_pos ⟨rfl, rfl⟩]
          simp [PointRec.counted]
        · rw [if_neg hoff, if_neg fun e => hoff e.symm, if_pos ⟨rfl, rfl⟩]
          simp [PointRec.counted]
      · have hchange : (s.point p).eff ≠ c := fun e => hne (e.symm.trans (hopen hl))
        rw [sampled_of_free ha hl hlimit, if_neg hlimit, if_neg hchange, if_neg fun e => hchange e.symm,
          if_neg fun h => absurd h.2 nofun, rewritten_zero]
        simp [PointRec.counted, hl]
  · rw [Bool.not_eq_true] at ha
    rw [sampled_of_not_accepts ha]
    have hbits : (if (s.point p).lockout = false ∧ (s.point p).lockout = true then 0x08#8 else 0#8) = 0#8 :=
      if_neg fun h => absurd (h.1.symm.trans h.2) nofun
    dsimp only
    rw [hbits, rewritten_zero, if_pos rfl]
    unfold State.debouncePoint
    dsimp only
    split_ifs with hc hrun
    · rfl
    · rfl
    · simp [accepts_iff.2 ⟨hc, Nat.le_of_not_lt hrun⟩] at ha

theorem sampledAt_keepsLaws (hin : (s.point p).inService = true) (hsrc : (s.point p).source ≠ .host) :
    KeepsLaws s (s.sampledAt p c) := by
  unfold State.sampledAt
  dsimp only
  split_ifs with heff
  · refine .rewritten read_tie sampled_sounding (fun h => ?_) _
    have hread : (s.point p).read s.chatterLimit c = (s.point p).sampled s.chatterLimit c := by
      unfold PointRec.read
      rw [← heff]
    rw [hread]
    exact sampled_lawful (h.records p) hin hsrc heff
  · exact .rewritten_deliver read_tie sampled_sounding (fun h => read_mayDeliver (h.records p) hin hsrc heff) _

theorem acceptChange_seqFrame (s : State) (p : PointNo) (c : Condition) : SeqFrame s (s.acceptChange p c) := by
  have hcounted : SeqFrame s (s.setPoint p ((s.point p).counted c)) := setPoint_seqFrame s p _
  have hlocked (u : State) : SeqFrame u (u.lockedOut p) := (setPoint_seqFrame u p _).trans (setCause_seqFrame _ _)
  rw [acceptChange_eq]
  split_ifs
  · exact hcounted
  · exact hcounted.trans (hlocked _)
  · exact (hcounted.trans (hlocked _)).trans (deliver_seqFrame _ p _)
  · exact hcounted
  · exact hcounted.trans (deliver_seqFrame _ p _)

theorem debouncePoint_seqFrame (s : State) (p : PointNo) (c : Condition) : SeqFrame s (s.debouncePoint p c) := by
  unfold State.debouncePoint
  dsimp only
  split_ifs
  · exact setPoint_seqFrame s p _
  · exact setPoint_seqFrame s p _
  · exact acceptChange_seqFrame s p c

theorem pointOnLine_eq_some {k : LineNo} (h : s.pointOnLine k = some p) :
    (s.point p).inService = true ∧ (s.point p).source = .line k := by
  have h := List.find?_some h
  simpa using h

theorem sampleLine_keepsLaws (s : State) (k : LineNo) : KeepsLaws s (s.sampleLine k) := by
  unfold State.sampleLine
  split
  next p hp =>
    obtain ⟨hin, hsrc⟩ := pointOnLine_eq_some hp
    have hkeeps (c : Condition) : KeepsLaws s (s.sampledAt p c) := sampledAt_keepsLaws hin (by rw [hsrc]; nofun)
    refine ⟨fun h => ?_, fun h => ?_, fun k r hk => ?_⟩
    · rw [debouncePoint_eq_sampledAt (h.records p).condition]
      exact (hkeeps _).lawful h
    · rw [debouncePoint_eq_sampledAt (h.records p).condition]
      exact (hkeeps _).horn h
    · rwa [(debouncePoint_seqFrame s p _).slot_eq] at hk
  next => exact .refl s

/-! ### The window boundary (R28, R29) -/

/-- What a lockout that ends asks for a delivery of NORMAL (R29). -/
theorem PointRec.Lawful.mayDeliver_ended {r : PointRec} (h : r.Lawful) (hin : r.inService = true) (hlockout : r.lockout = true)
    (hline : r.line = .normal) : PointRec.MayDeliver { r with lockout := false } .normal := by
  obtain ⟨hlocked, -, hhost⟩ := h.condition
  refine ⟨hin, ?_, h.state, h.sounding, h.range, nofun, fun _ => hline.symm, fun hs => ?_⟩
  · dsimp only
    rw [hlocked hlockout]
    nofun
  · obtain ⟨hchatter, -, hrun⟩ := hhost hs
    exact ⟨hchatter, rfl, hrun⟩

theorem judgePoint_keepsLaws (hin : (s.point p).inService = true) : KeepsLaws s (s.judgePoint p) := by
  unfold State.judgePoint
  dsimp only
  split_ifs with hended hline
  · obtain ⟨hlockout, hcount⟩ := hended
    rw [setCause_eq_withCauses]
    exact .rewritten_deliver (r := { s.point p with lockout := false }) rfl rfl
      (fun h => (h.records p).mayDeliver_ended hin hlockout hline) 0x08#8
  · obtain ⟨hlockout, hcount⟩ := hended
    rw [setCause_eq_withCauses]
    refine .rewritten (r := { s.point p with lockout := false }) rfl rfl (fun h => ?_) 0x08#8
    have hp := h.records p
    obtain ⟨hlocked, -, hhost⟩ := hp.condition
    refine ⟨fun ho => absurd (hin.symm.trans ho) nofun, ⟨nofun, fun _ => ?_, fun hs => ?_⟩, hp.state, hp.sounding, hp.range⟩
    · have hoff : (s.point p).line = .offNormal := by
        cases hl : (s.point p).line with
        | normal => exact absurd hl hline
        | offNormal => rfl
      exact (hlocked hlockout).trans hoff.symm
    · obtain ⟨hchatter, -, hrun⟩ := hhost hs
      exact ⟨hchatter, rfl, hrun⟩
  · rw [← rewritten_zero]
    refine .rewritten (r := { s.point p with chatterCount := 0 }) rfl rfl (fun h => ?_) 0#8
    have hp := h.records p
    obtain ⟨hlocked, hopen, hhost⟩ := hp.condition
    obtain ⟨hlo, hhi, hrun, -, hrepeat⟩ := hp.range
    refine ⟨fun ho => absurd (hin.symm.trans ho) nofun, ⟨hlocked, hopen, fun hs => ?_⟩, hp.state, hp.sounding,
      ⟨hlo, hhi, hrun, Nat.zero_le _, hrepeat⟩⟩
    obtain ⟨-, hlockout, hrun⟩ := hhost hs
    exact ⟨rfl, hlockout, hrun⟩

theorem judgeLine_keepsLaws (s : State) (k : LineNo) : KeepsLaws s (s.judgeLine k) := by
  unfold State.judgeLine
  split
  next p hp => exact judgePoint_keepsLaws (pointOnLine_eq_some hp).1
  next => exact .refl s

theorem closeWindow_keepsLaws (s : State) : KeepsLaws s s.closeWindow := .foldl judgeLine_keepsLaws allLines s

end

end Sys2Proof.Machine
end

section
/-!
The other units under the laws: placing and removing, shelving and its ends, class moves, definitions, options, the list's
cursor, and the second tick. Each has its outcome, and keeps the laws.
-/

namespace Sys2Proof.Machine

section

variable {s t u : State} {p q : PointNo} {c : Condition} {k : SlotNo}

/-! ### A record written of a point that has no entry -/

/-- The record of `p` written, and the slots. -/
def State.rewrittenWith (s : State) (p : PointNo) (r : PointRec) (slots : Vector (Option SlotRec) 8) : State :=
  { s.setPoint p r with slots := slots }

theorem point_rewrittenWith_self (s : State) (p : PointNo) (r : PointRec) (v : Vector (Option SlotRec) 8) :
    (s.rewrittenWith p r v).point p = r := point_setPoint_self s p r

theorem point_rewrittenWith_ne {r : PointRec} {v : Vector (Option SlotRec) 8} (h : q ≠ p) :
    (s.rewrittenWith p r v).point q = s.point q := point_setPoint_ne s r h

/-- What the ties ask of a record written for a point that has no entry, before or after. -/
structure State.MayRewrite (s : State) (p : PointNo) (r : PointRec) : Prop where
  unlisted : p ∉ s.standing
  notListed : ¬ (r.inService = true ∧ r.shelf = none ∧ r.state ≠ .quiet)
  entry : r.entryTime = none
  lastChange : ∀ t, r.lastChange = some t → t ≤ s.uptime
  line : ∀ q, q ≠ p → r.inService = true → (s.point q).inService = true → r.source ≠ .host →
    r.source ≠ (s.point q).source
  member : ∀ g, s.Member g p → r.group = g ∧ r.inService = true ∧ r.shelf = none

theorem State.Linked.rewrittenWith {r : PointRec} {v : Vector (Option SlotRec) 8} (h : s.Linked) (hr : s.MayRewrite p r)
    (hshelf : ∀ q k, ((s.rewrittenWith p r v).point q).shelf = some k ↔ (s.rewrittenWith p r v).holder k = some q) :
    (s.rewrittenWith p r v).Linked := by
  have hself := point_rewrittenWith_self s p r v
  have hne (q : PointNo) (hq : q ≠ p) : (s.rewrittenWith p r v).point q = s.point q := point_rewrittenWith_ne hq
  have hlistedNe (q : PointNo) (hq : q ∈ s.standing) : q ≠ p := fun e => hr.unlisted (e ▸ hq)
  constructor
  case listed =>
    refine ⟨fun q => ?_, h.listed.2⟩
    by_cases hq : q = p
    · subst hq
      rw [hself]
      exact iff_of_false hr.unlisted hr.notListed
    · rw [hne q hq]
      exact h.listed.1 q
  case order =>
    refine h.order.imp_of_mem fun {a b} ha hb hab => ?_
    rwa [hne a (hlistedNe a ha), hne b (hlistedNe b hb)]
  case cursor => exact h.cursor
  case times =>
    intro q
    by_cases hq : q = p
    · subst hq
      rw [hself]
      exact ⟨iff_of_false (by simp [hr.entry]) hr.unlisted, fun t ht => absurd (hr.entry.symm.trans ht) nofun, hr.lastChange⟩
    · rw [hne q hq]
      exact h.times q
  case line =>
    intro a b ha hb hsrc heq
    by_cases hap : a = p
    · by_cases hbp : b = p
      · rw [hap, hbp]
      · subst hap
        rw [hself] at ha hsrc heq
        rw [hne b hbp] at hb heq
        exact absurd heq (hr.line b hbp ha hb hsrc)
    · rw [hne a hap] at ha hsrc heq
      by_cases hbp : b = p
      · subst hbp
        rw [hself] at hb heq
        exact absurd heq.symm (hr.line a hap hb ha (heq ▸ hsrc))
      · rw [hne b hbp] at hb heq
        exact h.line a b ha hb hsrc heq
  case shelf => exact hshelf
  case group =>
    intro g
    refine (h.group g).same ?_ fun q hm => ?_
    · rw [Bool.eq_iff_iff, groupQuiet_iff, groupQuiet_iff]
      refine forall₂_congr fun q hq => ?_
      rw [hne q (hlistedNe q hq)]
    · by_cases hq : q = p
      · subst hq
        unfold State.Member
        rw [hself]
        exact hr.member g hm
      · unfold State.Member
        rw [hne q hq]
        exact hm
  case uptime => exact h.uptime

theorem State.Linked.setPoint_unlisted {r : PointRec} (h : s.Linked) (hr : s.MayRewrite p r)
    (hshelf : r.shelf = (s.point p).shelf) : (s.setPoint p r).Linked := by
  refine h.rewrittenWith (v := s.slots) hr fun q k => ?_
  have hholder : (s.rewrittenWith p r s.slots).holder k = s.holder k := rfl
  rw [hholder, ← h.shelf q k]
  by_cases hq : q = p
  · subst hq
    rw [point_rewrittenWith_self, hshelf]
  · rw [point_rewrittenWith_ne hq]

/-- A record written whose flag stands, and whose class stands or was silent. -/
theorem setPoint_hornLaw_of_silent {r : PointRec} (hflag : r.sounding = (s.point p).sounding)
    (hcls : (s.point p).sounding = true → r.cls = (s.point p).cls) (h : s.HornLaw) : (s.setPoint p r).HornLaw := by
  have hself := point_setPoint_self s p r
  refine HornLaw_of_flags (s := s) (fun q => ?_) (fun q hq' => ?_) rfl rfl h
  · by_cases hq : q = p
    · rw [hq, hself]; exact hflag
    · rw [point_setPoint_ne s r hq]
  · by_cases hq : q = p
    · subst hq
      rw [hself]
      exact hcls hq'
    · rw [point_setPoint_ne s r hq]

/-! ### Placing a point in service (R12, R13) -/

theorem State.Lawful.unlisted_of_out (h : s.Lawful) (hout : (s.point p).inService = false) : p ∉ s.standing := fun hp =>
  absurd (((h.listed.1 p).1 hp).1.symm.trans hout) nofun

theorem State.Lawful.lastChange_le (h : s.Lawful) (p : PointNo) (t : Nat) (ht : (s.point p).lastChange = some t) :
    t ≤ s.uptime := (h.times p).2.2 t ht

theorem not_member_of_out {g : GroupNo} (hout : (s.point p).inService = false) : ¬ s.Member g p := fun hm =>
  absurd (hm.2.1.symm.trans hout) nofun

theorem initialised_linked (h : s.Lawful) (hout : (s.point p).inService = false) (hline : s.lineTaken p = false) :
    (s.initialised p).Linked := by
  obtain ⟨-, -, hquiet, -, -, -, -, -, hentry, hlast, -⟩ := (h.records p).outOfService hout
  refine h.toLinked.setPoint_unlisted ⟨h.unlisted_of_out hout, fun hr => hr.2.2 hquiet, hentry, h.lastChange_le p, ?_,
    fun g hm => absurd hm (not_member_of_out hout)⟩ rfl
  intro q hq _ hin hsrc heq
  have hfree : ¬ s.lineTaken p = true := Bool.eq_false_iff.1 hline
  refine hfree (lineTaken_iff.2 ?_)
  cases hk : (s.point p).source with
  | host => exact absurd hk hsrc
  | line k => exact ⟨q, k, rfl, hq, hin, heq.symm.trans hk⟩

theorem initialised_mayArrive (h : s.Lawful) (hout : (s.point p).inService = false) :
    ((s.initialised p).point p).MayArrive := by
  obtain ⟨-, -, hquiet, hshelf, hsilent, -, -, -, -, -, -⟩ := (h.records p).outOfService hout
  obtain ⟨hlo, hhi, -, -, hrepeat⟩ := (h.records p).range
  have hself : (s.initialised p).point p = _ := point_setPoint_self s p _
  rw [hself]
  exact ⟨rfl, hshelf, hquiet, hsilent, ⟨nofun, fun _ => rfl, fun _ => ⟨rfl, rfl, rfl⟩⟩, ⟨hlo, hhi, hlo, Nat.zero_le _, hrepeat⟩⟩

theorem initialised_lawfulBut (h : s.Lawful) (hout : (s.point p).inService = false) (hline : s.lineTaken p = false) :
    (s.initialised p).LawfulBut p := by
  refine ⟨initialised_linked h hout hline, fun q hq => ?_⟩
  have hne : (s.initialised p).point q = s.point q := point_setPoint_ne s _ hq
  rw [hne]
  exact h.records q

theorem placePoint_keepsLaws (hout : (s.point p).inService = false) (hline : s.lineTaken p = false) :
    KeepsLaws s (s.placePoint p) where
  lawful h := by
    have hbut := initialised_lawfulBut h hout hline
    rw [placePoint_eq, hbut.arriveIfOffNormal_eq (initialised_mayArrive h hout)]
    exact hbut.arrived (initialised_mayArrive h hout)
  horn h hh := by
    have hbut := initialised_lawfulBut h hout hline
    rw [placePoint_eq, hbut.arriveIfOffNormal_eq (initialised_mayArrive h hout)]
    exact arrived_hornLaw (setPoint_hornLaw rfl rfl hh)
  slots k r hk := by
    rw [placePoint_eq, (arriveIfOffNormal_seqFrame _ p).slot_eq] at hk
    exact hk

/-! ### The ends of a shelving (R65, R110, R111) -/

theorem State.Lawful.shelved_record (h : s.Lawful) (hshelf : (s.point p).shelf ≠ none) :
    (s.point p).inService = true ∧ (s.point p).state = .quiet ∧ (s.point p).sounding = false ∧ p ∉ s.standing := by
  obtain ⟨hout, -, ⟨-, -, -, hshelved⟩, -, -⟩ := h.records p
  obtain ⟨hquiet, hsilent⟩ := hshelved hshelf
  refine ⟨?_, hquiet, hsilent, fun hp => hshelf ((h.listed.1 p).1 hp).2.1⟩
  by_contra hin
  obtain ⟨-, -, -, hnone, -⟩ := hout (Bool.eq_false_iff.2 hin)
  exact hshelf hnone

theorem State.Lawful.entryTime_of_unlisted (h : s.Lawful) (hp : p ∉ s.standing) : (s.point p).entryTime = none := by
  obtain ⟨hentry, -⟩ := h.times p
  simpa using mt hentry.1 hp

theorem freeSlot_eq_rewrittenWith (s : State) (k : SlotNo) (p : PointNo) :
    s.freeSlot k p = s.rewrittenWith p { s.point p with shelf := none } (s.slots.set k none) := rfl

theorem holder_rewrittenWith_set (r : PointRec) (o : Option SlotRec) (j : SlotNo) :
    (s.rewrittenWith p r (s.slots.set k o)).holder j = if j = k then o.map SlotRec.point else s.holder j := by
  have hslot : (s.rewrittenWith p r (s.slots.set k o)).slot j = if j = k then o else s.slot j :=
    vector_get_set s.slots k j o
  unfold State.holder
  rw [hslot]
  split <;> rfl

theorem freeSlot_lawfulBut (h : s.Lawful) (hshelf : (s.point p).shelf = some k) : (s.freeSlot k p).LawfulBut p := by
  have hne : (s.point p).shelf ≠ none := by simp [hshelf]
  obtain ⟨hin, hquiet, -, hunlisted⟩ := h.shelved_record hne
  rw [freeSlot_eq_rewrittenWith]
  refine ⟨h.toLinked.rewrittenWith ⟨hunlisted, fun hr => hr.2.2 hquiet, h.entryTime_of_unlisted hunlisted,
    h.lastChange_le p, fun q hq _ hin' hsrc heq => hq (h.line p q hin hin' hsrc heq).symm,
    fun g hm => absurd hm.2.2 hne⟩ fun q j => ?_, fun q hq => ?_⟩
  · rw [holder_rewrittenWith_set]
    have hp : s.holder k = some p := (h.shelf p k).1 hshelf
    by_cases hq : q = p
    · subst hq
      rw [point_rewrittenWith_self]
      refine iff_of_false nofun ?_
      split_ifs with hj
      · nofun
      · intro hj'
        exact hj (Option.some.inj (((h.shelf q j).2 hj').symm.trans hshelf))
    · rw [point_rewrittenWith_ne hq, h.shelf q j]
      split_ifs with hj
      · subst hj
        refine iff_of_false (fun hk => hq ?_) nofun
        exact Option.some.inj (hk.symm.trans hp)
      · exact Iff.rfl
  · rw [point_rewrittenWith_ne hq]
    exact h.records q

theorem freeSlot_mayArrive (h : s.Lawful) (hshelf : (s.point p).shelf = some k) :
    ((s.freeSlot k p).point p).MayArrive := by
  have hne : (s.point p).shelf ≠ none := by simp [hshelf]
  obtain ⟨hin, hquiet, hsilent, -⟩ := h.shelved_record hne
  rw [freeSlot_eq_rewrittenWith, point_rewrittenWith_self]
  exact ⟨hin, rfl, hquiet, hsilent, (h.records p).condition, (h.records p).range⟩

/-- A point off its slot has the outcome of R65. -/
theorem State.Lawful.unshelve_eq (h : s.Lawful) (hshelf : (s.point p).shelf = some k) :
    (s.freeSlot k p).arriveIfOffNormal p = s.unshelved p k :=
  (freeSlot_lawfulBut h hshelf).arriveIfOffNormal_eq (freeSlot_mayArrive h hshelf)

theorem slot_freeSlot (s : State) (k : SlotNo) (p : PointNo) (j : SlotNo) :
    (s.freeSlot k p).slot j = if j = k then none else s.slot j := vector_get_set s.slots k j none

theorem unshelve_keepsLaws (hshelf : (s.point p).shelf = some k) :
    KeepsLaws s ((s.freeSlot k p).arriveIfOffNormal p) where
  lawful h := by
    rw [h.unshelve_eq hshelf]
    exact (freeSlot_lawfulBut h hshelf).arrived (freeSlot_mayArrive h hshelf)
  horn h hh := by
    rw [h.unshelve_eq hshelf]
    exact arrived_hornLaw (s := s.freeSlot k p) (setPoint_hornLaw (s := s.setSlot k none)
      (r := { s.point p with shelf := none }) rfl rfl
      (HornLaw_of_flags (s := s) (fun _ => rfl) (fun _ _ => rfl) rfl rfl hh))
  slots j r hj := by
    rw [(arriveIfOffNormal_seqFrame _ p).slot_eq, slot_freeSlot] at hj
    split_ifs at hj
    exact hj

theorem State.Linked.slot_point {r : SlotRec} (h : s.Linked) (hk : s.slot k = some r) : (s.point r.point).shelf = some k :=
  (h.shelf r.point k).2 (holder_eq_some.2 ⟨r, hk, rfl⟩)

theorem expireSlot_of_used {r : SlotRec} (hk : s.slot k = some r) :
    s.expireSlot k = ((s.freeSlot k r.point).arriveIfOffNormal r.point).setCause .shelf := by
  unfold State.expireSlot
  rw [hk]

theorem expireSlot_of_free (hk : s.slot k = none) : s.expireSlot k = s := by
  unfold State.expireSlot
  rw [hk]

/-- The expiry of a slot has its outcome. -/
theorem State.Lawful.expireSlot_eq (h : s.Lawful) (k : SlotNo) : s.expireSlot k = s.expired k := by
  unfold State.expired
  cases hk : s.slot k with
  | none => exact expireSlot_of_free hk
  | some r =>
    rw [expireSlot_of_used hk, h.unshelve_eq (h.slot_point hk), setCause_eq_withCauses]
    rfl

theorem slot_expireSlot (s : State) (k j : SlotNo) : (s.expireSlot k).slot j = if j = k then none else s.slot j := by
  cases hk : s.slot k with
  | none =>
    rw [expireSlot_of_free hk]
    split_ifs with hj
    · rw [hj, hk]
    · rfl
  | some r =>
    rw [expireSlot_of_used hk, (setCause_seqFrame _ _).slot_eq, (arriveIfOffNormal_seqFrame _ _).slot_eq, slot_freeSlot]

theorem expireSlot_keepsLaws (s : State) (k : SlotNo) : KeepsLaws s (s.expireSlot k) := by
  refine ⟨fun h => ?_, fun h hh => ?_, fun j r hj => ?_⟩
  · cases hk : s.slot k with
    | none => rwa [expireSlot_of_free hk]
    | some r =>
      rw [expireSlot_of_used hk]
      exact ((unshelve_keepsLaws (h.slot_point hk)).trans (setCause_keepsLaws _ _)).lawful h
  · cases hk : s.slot k with
    | none => rwa [expireSlot_of_free hk]
    | some r =>
      rw [expireSlot_of_used hk]
      exact ((unshelve_keepsLaws (h.slot_point hk)).trans (setCause_keepsLaws _ _)).horn h hh
  · rw [slot_expireSlot] at hj
    split_ifs at hj
    exact hj

/-! ### Withdrawals (R15, R64, R106) -/

/-- What the ties ask of a record with which a point is withdrawn. -/
structure State.MayWithdraw (s : State) (p : PointNo) (r : PointRec) : Prop where
  quiet : r.state = .quiet
  entry : r.entryTime = none
  lastChange : ∀ t, r.lastChange = some t → t ≤ s.uptime
  inService : r.inService = true → (s.point p).inService = true
  source : r.source = (s.point p).source
  group : r.group = (s.point p).group
  seqType : r.seqType = (s.point p).seqType

section

variable {r : PointRec} {v : Vector (Option SlotRec) 8}

theorem point_withdrawnWith (s : State) (p q : PointNo) (r : PointRec) (v : Vector (Option SlotRec) 8) :
    (s.withdrawnWith p (s.points.set p r) v).point q = if q = p then r else s.point q := vector_get_set s.points p q r

theorem withdrawnWith_linked (h : s.Linked) (hr : s.MayWithdraw p r)
    (hshelf : ∀ q k, ((s.withdrawnWith p (s.points.set p r) v).point q).shelf = some k ↔
      (s.withdrawnWith p (s.points.set p r) v).holder k = some q) :
    (s.withdrawnWith p (s.points.set p r) v).Linked := by
  have hself : (s.withdrawnWith p (s.points.set p r) v).point p = r := by rw [point_withdrawnWith, if_pos rfl]
  have hne (q : PointNo) (hq : q ≠ p) : (s.withdrawnWith p (s.points.set p r) v).point q = s.point q := by
    rw [point_withdrawnWith, if_neg hq]
  have hstanding : (s.withdrawnWith p (s.points.set p r) v).standing = withoutEntry p s.standing := rfl
  have hmem (q : PointNo) : q ∈ (s.withdrawnWith p (s.points.set p r) v).standing ↔ q ∈ s.standing ∧ q ≠ p :=
    mem_withoutEntry
  have hgroup (q : PointNo) : ((s.withdrawnWith p (s.points.set p r) v).point q).group = (s.point q).group := by
    by_cases hq : q = p
    · rw [hq, hself, hr.group]
    · rw [hne q hq]
  have htype (q : PointNo) : ((s.withdrawnWith p (s.points.set p r) v).point q).seqType = (s.point q).seqType := by
    by_cases hq : q = p
    · rw [hq, hself, hr.seqType]
    · rw [hne q hq]
  constructor
  case listed =>
    refine ⟨fun q => ?_, h.listed.2.filter _⟩
    rw [hmem]
    by_cases hq : q = p
    · subst hq
      rw [hself]
      exact iff_of_false (fun hm => hm.2 rfl) fun hm => hm.2.2 hr.quiet
    · rw [hne q hq, ← h.listed.1 q]
      exact and_iff_left hq
  case order =>
    rw [State.ClassOrderLaw, hstanding]
    refine (h.order.filter _).imp_of_mem fun {a b} ha hb hab => ?_
    rwa [hne a (mem_withoutEntry.1 ha).2, hne b (mem_withoutEntry.1 hb).2]
  case cursor =>
    have hcursor : (s.withdrawnWith p (s.points.set p r) v).cursor =
      if s.cursor = some p then entryAfter p s.standing else s.cursor := rfl
    have hmark : (s.withdrawnWith p (s.points.set p r) v).mark = if s.mark = Mark.entry p then .lost else s.mark := rfl
    rw [State.CursorLaw, hcursor, hmark]
    refine ⟨fun q hq => (hmem q).2 ?_, fun q hq => (hmem q).2 ?_⟩
    · split_ifs at hq with hp
      · exact ⟨entryAfter_mem hq, entryAfter_ne h.listed.2 hq⟩
      · exact ⟨h.cursor.1 q hq, fun e => hp (e ▸ hq)⟩
    · split_ifs at hq with hp
      exact ⟨h.cursor.2 q hq, fun e => hp (e ▸ hq)⟩
  case times =>
    intro q
    rw [hmem]
    by_cases hq : q = p
    · subst hq
      rw [hself]
      exact ⟨iff_of_false (by simp [hr.entry]) fun hm => hm.2 rfl, fun t ht => absurd (hr.entry.symm.trans ht) nofun,
        hr.lastChange⟩
    · obtain ⟨hlisted, htimes⟩ := h.times q
      rw [hne q hq]
      exact ⟨hlisted.trans (and_iff_left hq).symm, htimes⟩
  case line =>
    have hin (q : PointNo) (hq : ((s.withdrawnWith p (s.points.set p r) v).point q).inService = true) :
        (s.point q).inService = true := by
      by_cases hqp : q = p
      · subst hqp
        rw [hself] at hq
        exact hr.inService hq
      · rwa [hne q hqp] at hq
    have hsource (q : PointNo) : ((s.withdrawnWith p (s.points.set p r) v).point q).source = (s.point q).source := by
      by_cases hq : q = p
      · rw [hq, hself, hr.source]
      · rw [hne q hq]
    intro a b ha hb
    rw [hsource, hsource]
    exact h.line a b (hin a ha) (hin b hb)
  case shelf => exact hshelf
  case group =>
    intro g
    have hrec : (s.withdrawnWith p (s.points.set p r) v).groupRec g = _ := vector_get_set s.groups (s.point p).group g _
    have hmember (q : PointNo) (hq : q ≠ p) (hm : s.Member g q) :
        (s.withdrawnWith p (s.points.set p r) v).Member g q := by
      unfold State.Member
      rwa [hne q hq]
    have hquiet : s.groupQuiet g = true → (s.withdrawnWith p (s.points.set p r) v).groupQuiet g = true := by
      simp only [groupQuiet_iff, hgroup, htype, hmem]
      exact fun hall q hq => hall q hq.1
    rw [hrec]
    by_cases hg : g = (s.point p).group
    · subst hg
      have heq : (s.withdrawnWith p (s.points.set p r) v).groupQuiet (s.point p).group =
          s.quietWith (s.point p).group (withoutEntry p s.standing) := by
        rw [Bool.eq_iff_iff, groupQuiet_iff, quietWith_iff, hstanding]
        simp only [hgroup, htype]
      rw [if_pos rfl, heq]
      exact (h.group _).withdrawn (fun hq => heq ▸ hquiet hq) hmember
    · rw [if_neg hg]
      refine (h.group g).same (groupQuiet_congr hgroup htype fun q hq _ => ?_) fun q hm => hmember q ?_ hm
      · rw [hmem]
        exact and_iff_left fun e => hg (by rw [← hq, e])
      · rintro rfl
        exact hg hm.1.symm
  case uptime => exact h.uptime

theorem withdrawnWith_hornLaw : (s.withdrawnWith p (s.points.set p r) v).HornLaw := HornLaw_of_hornWith rfl

theorem withdrawnWith_lawful (h : s.Lawful) (hr : s.MayWithdraw p r) (hlaw : r.Lawful)
    (hshelf : ∀ q k, ((s.withdrawnWith p (s.points.set p r) v).point q).shelf = some k ↔
      (s.withdrawnWith p (s.points.set p r) v).holder k = some q) :
    (s.withdrawnWith p (s.points.set p r) v).Lawful := by
  refine ⟨withdrawnWith_linked h.toLinked hr hshelf, fun q => ?_⟩
  rw [point_withdrawnWith]
  split
  exacts [hlaw, h.records q]

end

end

end Sys2Proof.Machine
end

section
/-!
Removal, shelving, class moves, definitions, options, the list's cursor and the second tick under the laws.
-/

namespace Sys2Proof.Machine

section

variable {s t u : State} {p q : PointNo} {c : Condition} {k : SlotNo}

/-! ### REMOVE FROM SERVICE (R15) -/

theorem State.Lawful.entryAbsent (h : s.Lawful) (hp : p ∉ s.standing) : s.EntryAbsent p :=
  ⟨h.entryTime_of_unlisted hp, fun e => hp (h.cursor.1 p e), fun e => hp (h.cursor.2 p e)⟩

/-- The record of a point removed from service: its configuration, and the values of an unused point (R15). -/
def PointRec.removed (r : PointRec) : PointRec :=
  { toPointConfig := r.toPointConfig, inService := false, line := .normal, eff := .normal, state := .quiet, shelf := none,
    sounding := false, chatterCount := 0, lockout := false, repeatCount := 0, entryTime := none, lastChange := none,
    run := 0 }

/-- The slots once that of `p` is freed. -/
def State.slotsWithout (s : State) (p : PointNo) : Vector (Option SlotRec) 8 :=
  match (s.point p).shelf with
  | some k => s.slots.set k none
  | none => s.slots

theorem removed_eq (s : State) (p : PointNo) :
    s.removed p = s.withdrawnWith p (s.points.set p (s.point p).removed) (s.slotsWithout p) := rfl

/-- A point off the list and off the shelf, with its record as R15 leaves it, before the group has its notice. -/
theorem withdrawn_record (habsent : p ∉ s.standing → s.EntryAbsent p) :
    ((s.leaveList p).freeSlotOf p).setPoint p (((s.leaveList p).freeSlotOf p).point p).withdrawn =
      { s with
        points := s.points.set p (s.point p).removed
        slots := s.slotsWithout p
        standing := withoutEntry p s.standing
        cursor := if s.cursor = some p then entryAfter p s.standing else s.cursor
        mark := if s.mark = Mark.entry p then .lost else s.mark
        lgen := if p ∈ s.standing then s.lgen + 1#16 else s.lgen }.withCauses
          (if p ∈ s.standing then 0x20#8 else 0#8) := by
  have hleave := leaveList_eq_of_absent habsent
  have hshelf : ((s.leaveList p).point p).shelf = (s.point p).shelf := (leaveList_seqRecords s p).shelf_eq p
  have hpoint : (s.leaveList p).point p = { s.point p with entryTime := none } := by
    rw [hleave]
    exact point_setPoint_self s p _
  unfold State.freeSlotOf State.slotsWithout
  rw [hshelf]
  cases hk : (s.point p).shelf with
  | none =>
    have hrecord : ((s.leaveList p).point p).withdrawn = (s.point p).removed := by
      rw [hpoint]
      simp [PointRec.withdrawn, PointRec.removed, hk]
    dsimp only
    rw [hrecord, hleave]
    simp only [State.setPoint, State.withCauses, Vector.set_set]
  | some k =>
    have hrecord : (((s.leaveList p).freeSlot k p).point p).withdrawn = (s.point p).removed := by
      rw [freeSlot_eq_rewrittenWith, point_rewrittenWith_self, hpoint]
      rfl
    dsimp only
    rw [hrecord, hleave]
    simp only [State.freeSlot, State.setSlot, State.setPoint, State.withCauses, Vector.set_set]

/-- REMOVE FROM SERVICE has its outcome. -/
theorem State.Lawful.removePoint_eq (h : s.Lawful) (p : PointNo) : s.removePoint p = s.removed p := by
  have hrecord := withdrawn_record (s := s) (p := p) h.entryAbsent
  have hpoint (q : PointNo) (r : PointRec) (hr : r.group = (s.point p).group) (hr' : r.seqType = (s.point p).seqType) :
      ((s.setPoint p r).point q).group = (s.point q).group ∧
        ((s.setPoint p r).point q).seqType = (s.point q).seqType := by
    rw [point_setPoint]
    split
    next hq => rw [hq]; exact ⟨hr, hr'⟩
    next => exact ⟨rfl, rfl⟩
  have hgroup (q : PointNo) := (hpoint q (s.point p).removed rfl rfl).1
  have htype (q : PointNo) := (hpoint q (s.point p).removed rfl rfl).2
  unfold State.removePoint
  dsimp only
  rw [hrecord, removed_eq, groupNotice_eq, noticeTable_withdrawn]
  have hg : (({ s with
        points := s.points.set p (s.point p).removed
        slots := s.slotsWithout p
        standing := withoutEntry p s.standing
        cursor := if s.cursor = some p then entryAfter p s.standing else s.cursor
        mark := if s.mark = Mark.entry p then .lost else s.mark
        lgen := if p ∈ s.standing then s.lgen + 1#16 else s.lgen }.withCauses
          (if p ∈ s.standing then 0x20#8 else 0#8)).point p).group = (s.point p).group := hgroup p
  rw [hg]
  have hquiet (g : GroupNo) (l : List PointNo) : ({ s with
        points := s.points.set p (s.point p).removed
        slots := s.slotsWithout p
        standing := withoutEntry p s.standing
        cursor := if s.cursor = some p then entryAfter p s.standing else s.cursor
        mark := if s.mark = Mark.entry p then .lost else s.mark
        lgen := if p ∈ s.standing then s.lgen + 1#16 else s.lgen }.withCauses
          (if p ∈ s.standing then 0x20#8 else 0#8)).quietWith g l = s.quietWith g l := by
    have hset : (s.setPoint p (s.point p).removed).quietWith g l = s.quietWith g l := by
      simp only [State.quietWith, hgroup, htype]
    exact hset
  rw [hquiet]
  simp only [State.withdrawnWith, decide_eq_true_eq]
  rfl

theorem removed_lawful (h : s.Lawful) (p : PointNo) : (s.removed p).Lawful := by
  obtain ⟨hlo, hhi, -, -, -⟩ := (h.records p).range
  rw [removed_eq]
  refine withdrawnWith_lawful h ⟨rfl, rfl, nofun, nofun, rfl, rfl, rfl⟩
    ⟨fun _ => ⟨rfl, rfl, rfl, rfl, rfl, rfl, rfl, rfl, rfl, rfl, rfl⟩, ⟨nofun, fun _ => rfl, fun _ => ⟨rfl, rfl, rfl⟩⟩,
      ⟨fun _ => .inl rfl, fun _ => nofun, nofun, fun hs => absurd rfl hs⟩, nofun,
      ⟨hlo, hhi, hlo, Nat.zero_le _, Nat.zero_le _⟩⟩ fun q j => ?_
  have hslot : (s.withdrawnWith p (s.points.set p (s.point p).removed) (s.slotsWithout p)).holder j =
      if s.holder j = some p then none else s.holder j := by
    have hslots : (s.withdrawnWith p (s.points.set p (s.point p).removed) (s.slotsWithout p)).slot j =
        (s.slotsWithout p)[j] := rfl
    unfold State.holder
    rw [hslots]
    unfold State.slotsWithout
    cases hk : (s.point p).shelf with
    | none =>
      have hno : ¬ (s.slot j).map SlotRec.point = some p := fun hj => by
        have := (h.shelf p j).2 hj
        rw [hk] at this
        cases this
      rw [if_neg hno]
      rfl
    | some k =>
      have hget := vector_get_set s.slots k j none
      dsimp only
      rw [hget]
      by_cases hj : j = k
      · subst hj
        have hp : (s.slot j).map SlotRec.point = some p := (h.shelf p j).1 hk
        rw [if_pos rfl, if_pos hp]
        rfl
      · have hno : ¬ (s.slot j).map SlotRec.point = some p := fun hp =>
          hj (Option.some.inj (((h.shelf p j).2 hp).symm.trans hk))
        rw [if_neg hj, if_neg hno]
        rfl
  rw [hslot, point_withdrawnWith]
  by_cases hq : q = p
  · subst hq
    rw [if_pos rfl]
    refine iff_of_false nofun ?_
    split_ifs with hj
    · nofun
    · exact hj
  · rw [if_neg hq, h.shelf q j]
    split_ifs with hj
    · exact iff_of_false (fun hq' => hq (Option.some.inj (hq'.symm.trans hj))) nofun
    · exact Iff.rfl

theorem removePoint_keepsLaws (s : State) (p : PointNo) : KeepsLaws s (s.removePoint p) := by
  refine ⟨fun h => ?_, fun h _ => ?_, fun j r hj => ?_⟩
  · rw [h.removePoint_eq]
    exact removed_lawful h p
  · rw [h.removePoint_eq]
    exact withdrawnWith_hornLaw
  · unfold State.removePoint at hj
    have hslot : (((s.leaveList p).freeSlotOf p)).slot j = some r := hj
    have hleave := (leaveList_seqFrame s p).slot_eq j
    unfold State.freeSlotOf at hslot
    split at hslot
    next k _ =>
      rw [slot_freeSlot] at hslot
      split_ifs at hslot
      exact hleave ▸ hslot
    next => exact hleave ▸ hslot

/-! ### SHELVE (R64, R103, R106) -/

theorem shelved_eq (s : State) (p : PointNo) (k : SlotNo) (n : Nat) :
    s.shelved p k n = s.withdrawnWith p (s.points.set p { (s.point p).shelvedOn k s.uptime with entryTime := none })
      (s.slots.set k (some ⟨p, n⟩)) := rfl

theorem State.Lawful.shelve_eq (h : s.Lawful) (p : PointNo) (k : SlotNo) (n : Nat) :
    (s.takeSlot k p n).shelveNotice p = s.shelved p k n := by
  have habsent (hp : p ∉ (s.onShelf p k n).standing) : (s.onShelf p k n).EntryAbsent p := by
    obtain ⟨hentry, hcursor, hmark⟩ := h.entryAbsent hp
    exact ⟨by rw [point_onShelf]; exact hentry, hcursor, hmark⟩
  rw [takeSlot_shelveNotice_eq, leaveList_notice_eq_withdrawnWith habsent]
  simp only [State.shelved, State.withdrawnWith, onShelf_quietWith, point_onShelf]
  simp only [State.onShelf, State.setPoint, Vector.set_set]
  rfl

theorem shelved_lawful {n : Nat} (h : s.Lawful) (hin : (s.point p).inService = true) (hshelf : (s.point p).shelf = none)
    (hfree : s.slot k = none) : (s.shelved p k n).Lawful := by
  have hp := h.records p
  rw [shelved_eq]
  refine withdrawnWith_lawful h ⟨rfl, rfl, fun t ht => ?_, fun _ => hin, rfl, rfl, rfl⟩
    ⟨fun ho => absurd (hin.symm.trans ho) nofun, hp.condition,
      ⟨fun _ => .inl rfl, fun _ => nofun, fun _ hs => absurd hs nofun, fun _ => ⟨rfl, rfl⟩⟩, nofun, hp.range⟩ fun q j => ?_
  · unfold PointRec.shelvedOn at ht
    dsimp only at ht
    split_ifs at ht
    · exact h.lastChange_le p t ht
    · cases ht; exact le_rfl
  · have hslot : (s.withdrawnWith p (s.points.set p { (s.point p).shelvedOn k s.uptime with entryTime := none })
        (s.slots.set k (some ⟨p, n⟩))).slot j = if j = k then some ⟨p, n⟩ else s.slot j :=
      vector_get_set s.slots k j (some ⟨p, n⟩)
    unfold State.holder
    rw [hslot, point_withdrawnWith]
    by_cases hq : q = p
    · subst hq
      rw [if_pos rfl]
      by_cases hj : j = k
      · subst hj
        rw [if_pos rfl]
        exact iff_of_true rfl rfl
      · have hne : ¬ (s.slot j).map SlotRec.point = some q := fun he => by
          have := (h.shelf q j).2 he
          rw [hshelf] at this
          cases this
        rw [if_neg hj]
        exact iff_of_false (fun he => hj (Option.some.inj he).symm) hne
    · rw [if_neg hq, h.shelf q j]
      unfold State.holder
      by_cases hj : j = k
      · subst hj
        rw [if_pos rfl, hfree]
        exact iff_of_false nofun fun he => hq (Option.some.inj he).symm
      · rw [if_neg hj]

theorem shelved_slotRange {n : Nat} (hs : s.SlotRange) (hlo : 1 ≤ n) (hhi : n ≤ 86400) :
    (s.shelved p k n).SlotRange := by
  intro j r hj
  have hslot : (s.shelved p k n).slot j = if j = k then some ⟨p, n⟩ else s.slot j :=
    vector_get_set s.slots k j (some ⟨p, n⟩)
  rw [hslot] at hj
  split_ifs at hj
  · cases hj
    exact ⟨hlo, hhi⟩
  · exact hs j r hj

/-! ### Classes, definitions and options -/

theorem changeClass_of_unlisted {cls : ClassNo} (h : p ∉ s.standing ∨ (s.point p).cls = cls) :
    s.changeClass p cls = s.setPoint p { s.point p with cls := cls } := by
  unfold State.changeClass
  dsimp only
  rw [if_neg]
  rintro ⟨hlisted, hne⟩
  rcases h with hp | hcls
  · exact hp ((mem_standing_iff_isListed s p).2 hlisted)
  · exact hne hcls

/-- What the class move of a listed point leaves (R18, R86). -/
def State.reclassed (s : State) (p : PointNo) (cls : ClassNo) : State :=
  let points := s.points.set p { s.point p with cls := cls }
  { s with
    points := points
    standing := s.endOfClass p cls (withoutEntry p s.standing)
    lgen := s.lgen + 1#16
    horn := if (s.point p).sounding then s.hornWith points else s.horn }.withCauses 0x20#8

theorem point_reclassed (s : State) (p q : PointNo) (cls : ClassNo) :
    (s.reclassed p cls).point q = if q = p then { s.point p with cls := cls } else s.point q :=
  vector_get_set s.points p q _

/-- A class move has its outcome. -/
theorem changeClass_of_listed {cls : ClassNo} (horder : s.ClassOrderLaw) (hp : p ∈ s.standing)
    (hne : (s.point p).cls ≠ cls) : s.changeClass p cls = s.reclassed p cls := by
  have hself := point_setPoint_self s p { s.point p with cls := cls }
  have hcls (q : PointNo) (hq : q ∈ withoutEntry p s.standing) :
      ((s.setPoint p { s.point p with cls := cls }).point q).cls = (s.point q).cls := by
    rw [point_setPoint_ne s _ (mem_withoutEntry.1 hq).2]
  have hfilter : s.standing.filter (· != p) = withoutEntry p s.standing := by
    unfold withoutEntry
    congr 1
    funext q
    by_cases hq : q = p <;> simp [hq]
  have hpairwise : (withoutEntry p s.standing).Pairwise fun a b =>
      ((s.setPoint p { s.point p with cls := cls }).point a).cls ≤
        ((s.setPoint p { s.point p with cls := cls }).point b).cls :=
    (horder.filter _).imp_of_mem fun {a b} ha hb hab => by rwa [hcls a ha, hcls b hb]
  have hmoved : insertAfterLast ((s.setPoint p { s.point p with cls := cls }).upToClass cls) p
      (withoutEntry p s.standing) = s.endOfClass p cls (withoutEntry p s.standing) := by
    have hlow := List.filter_congr (p := fun q => decide
      (((s.setPoint p { s.point p with cls := cls }).point q).cls ≤ cls)) fun q hq => by rw [hcls q hq]
    have hhigh := List.filter_congr (p := fun q => decide
      (cls < ((s.setPoint p { s.point p with cls := cls }).point q).cls)) fun q hq => by rw [hcls q hq]
    exact (insertAfterLast_of_ordered (fun q => ((s.setPoint p { s.point p with cls := cls }).point q).cls) cls p
      hpairwise).trans (by rw [hlow, hhigh]; rfl)
  have hmove : (s.setPoint p { s.point p with cls := cls }).listMove p =
      { s.setPoint p { s.point p with cls := cls } with
        standing := s.endOfClass p cls (withoutEntry p s.standing), lgen := s.lgen + 1#16 }.withCauses 0x20#8 := by
    have hcause (u : State) : u.countListChange = { u with lgen := u.lgen + 1#16 }.withCauses 0x20#8 :=
      setCause_eq_withCauses _ .list
    unfold State.listMove
    rw [hcause, hself, setPoint_standing, hfilter, hmoved]
    rfl
  unfold State.changeClass State.reclassed
  dsimp only
  rw [if_pos ⟨(mem_standing_iff_isListed s p).1 hp, hne⟩, hmove]
  split <;> rfl

theorem reclassed_lawful {cls : ClassNo} (h : s.Lawful) (hp : p ∈ s.standing) : (s.reclassed p cls).Lawful := by
  have hself : (s.reclassed p cls).point p = { s.point p with cls := cls } := by rw [point_reclassed, if_pos rfl]
  have hne (q : PointNo) (hq : q ≠ p) : (s.reclassed p cls).point q = s.point q := by rw [point_reclassed, if_neg hq]
  have hfield {α : Type} (f : PointRec → α) (hf : ∀ r : PointRec, f { r with cls := cls } = f r) (q : PointNo) :
      f ((s.reclassed p cls).point q) = f (s.point q) := by
    by_cases hq : q = p
    · rw [hq, hself, hf]
    · rw [hne q hq]
  have hin := hfield (fun r => r.inService) fun _ => rfl
  have hshelf := hfield (fun r => r.shelf) fun _ => rfl
  have hstate := hfield (fun r => r.state) fun _ => rfl
  have hsource := hfield (fun r => r.source) fun _ => rfl
  have hmem (q : PointNo) : q ∈ (s.reclassed p cls).standing ↔ q ∈ s.standing := by
    refine mem_endOfClass.trans ?_
    rw [mem_withoutEntry]
    by_cases hq : q = p <;> simp [hq, hp]
  have hunlisted : p ∉ withoutEntry p s.standing := fun hm => (mem_withoutEntry.1 hm).2 rfl
  refine ⟨⟨⟨fun q => ?_, endOfClass_nodup hunlisted (h.listed.2.filter _)⟩, ?_, ?_, fun q => ?_, ?_, fun q j => ?_,
    fun g => ?_, h.uptime⟩, fun q => ?_⟩
  · rw [hmem, hin, hshelf, hstate]
    exact h.listed.1 q
  · refine endOfClass_pairwise (rank := fun q => ((s.reclassed p cls).point q).cls) (fun q hq => ?_) ?_ ?_
    · rw [hne q (mem_withoutEntry.1 hq).2]
    · rw [hself]
    · refine (h.order.filter _).imp_of_mem fun {a b} ha hb hab => ?_
      rwa [hne a (mem_withoutEntry.1 ha).2, hne b (mem_withoutEntry.1 hb).2]
  · exact ⟨fun q hq => (hmem q).2 (h.cursor.1 q hq), fun q hq => (hmem q).2 (h.cursor.2 q hq)⟩
  · rw [hmem, hfield (fun r => r.entryTime) (fun _ => rfl), hfield (fun r => r.lastChange) (fun _ => rfl)]
    exact h.times q
  · simpa only [State.LineLaw, hin, hsource] using h.line
  · rw [hshelf]
    exact h.shelf q j
  · refine (h.group g).same (groupQuiet_congr (hfield (fun r => r.group) fun _ => rfl)
      (hfield (fun r => r.seqType) fun _ => rfl) fun q _ _ => hmem q) fun q hm => ?_
    unfold State.Member
    rw [hfield (fun r => r.group) (fun _ => rfl), hin, hshelf]
    exact hm
  · by_cases hq : q = p
    · rw [hq, hself]
      have hr := h.records p
      exact ⟨hr.outOfService, hr.condition, hr.state, hr.sounding, hr.range⟩
    · rw [hne q hq]
      exact h.records q

theorem reclassed_hornLaw {cls : ClassNo} (h : s.HornLaw) : (s.reclassed p cls).HornLaw := by
  cases hs : (s.point p).sounding with
  | true => exact HornLaw_of_hornWith (by unfold State.reclassed; rw [hs]; rfl)
  | false =>
    refine HornLaw_of_flags (s := s) (fun q => ?_) (fun q hq' => ?_) rfl (by unfold State.reclassed; rw [hs]; rfl) h
    · rw [point_reclassed]
      split
      next hq => rw [hq]
      next => rfl
    · rw [point_reclassed, if_neg]
      rintro rfl
      exact absurd (hs.symm.trans hq') nofun

/-- The class of an unlisted point moves no tie. -/
theorem setClass_unlisted_lawful {cls : ClassNo} (h : s.Lawful) (hp : p ∉ s.standing) :
    (s.setPoint p { s.point p with cls := cls }).Lawful := by
  have hr := h.records p
  have hnot := mt (h.listed.1 p).2 hp
  have hlinked : (s.setPoint p { s.point p with cls := cls }).Linked :=
    h.toLinked.setPoint_unlisted ⟨hp, hnot, h.entryTime_of_unlisted hp, h.lastChange_le p,
      fun q hq hin hin' hsrc heq => hq (h.line p q hin hin' hsrc heq).symm, fun g hm => hm⟩ rfl
  refine State.LawfulBut.lawful (p := p) ⟨hlinked, fun q hq => ?_⟩ ?_
  · rw [point_setPoint_ne s _ hq]
    exact h.records q
  · rw [point_setPoint_self]
    exact ⟨hr.outOfService, hr.condition, hr.state, hr.sounding, hr.range⟩

theorem State.Lawful.silent_of_unlisted (h : s.Lawful) (hp : p ∉ s.standing) : (s.point p).sounding = false := by
  have hquiet : (s.point p).state = .quiet := by
    by_contra hq
    exact hp (h.mem_iff.2 hq)
  exact (h.records p).sounding.eq_false (by simp [hquiet]) (by simp [hquiet])

theorem changeClass_keepsLaws (s : State) (p : PointNo) (cls : ClassNo) : KeepsLaws s (s.changeClass p cls) := by
  have hslots (j : SlotNo) : (s.changeClass p cls).slot j = s.slot j := by
    unfold State.changeClass
    dsimp only
    split_ifs <;> rfl
  by_cases hcls : (s.point p).cls = cls
  · have hkept : s.changeClass p cls = s := by
      have hsame : { s.point p with cls := cls } = s.point p := by rw [← hcls]
      rw [changeClass_of_unlisted (.inr hcls), hsame]
      simp [State.setPoint, State.point]
    rw [hkept]
    exact .refl s
  · refine ⟨fun h => ?_, fun h hh => ?_, fun j r hj => hslots j ▸ hj⟩
    · by_cases hp : p ∈ s.standing
      · rw [changeClass_of_listed h.order hp hcls]
        exact reclassed_lawful h hp
      · rw [changeClass_of_unlisted (.inl hp)]
        exact setClass_unlisted_lawful h hp
    · by_cases hp : p ∈ s.standing
      · rw [changeClass_of_listed h.order hp hcls]
        exact reclassed_hornLaw hh
      · rw [changeClass_of_unlisted (.inl hp)]
        exact setPoint_hornLaw_of_silent rfl (fun hs => absurd ((h.silent_of_unlisted hp).symm.trans hs) nofun) hh

/-- A definition writes an out-of-service point, whose live fields stand (R9). -/
theorem define_keepsLaws {cfg : PointConfig} (hout : (s.point p).inService = false) (hlo : 1 ≤ cfg.debounce)
    (hhi : cfg.debounce ≤ 250) : KeepsLaws s (s.setPoint p { s.point p with toPointConfig := cfg }) where
  lawful h := by
    have hr := h.records p
    obtain ⟨hline, heff, hquiet, hshelf, hsilent, hchatter, hlockout, hrepeat, hentry, hlast, hrun⟩ := hr.outOfService hout
    have hlinked : (s.setPoint p { s.point p with toPointConfig := cfg }).Linked :=
      h.toLinked.setPoint_unlisted ⟨h.unlisted_of_out hout, fun hm => hm.2.2 hquiet, hentry, h.lastChange_le p,
        fun q _ hin => absurd (hout.symm.trans hin) nofun, fun g hm => absurd hm (not_member_of_out hout)⟩ rfl
    refine State.LawfulBut.lawful (p := p) ⟨hlinked, fun q hq => ?_⟩ ?_
    · rw [point_setPoint_ne s _ hq]
      exact h.records q
    · rw [point_setPoint_self]
      refine ⟨hr.outOfService, ⟨fun hl => absurd (hlockout.symm.trans hl) nofun, fun _ => heff.trans hline.symm,
        fun _ => ⟨hchatter, hlockout, hrun⟩⟩, ⟨fun _ => .inl hquiet, fun _ => ?_, fun hin => absurd (hout.symm.trans hin) nofun,
        fun hs => absurd hshelf hs⟩, fun hs => absurd (hsilent.symm.trans hs) nofun, ⟨hlo, hhi, ?_, ?_, ?_⟩⟩
      · dsimp only; rw [hquiet]; nofun
      · dsimp only; rw [hrun]; exact hlo
      · dsimp only; rw [hchatter]; exact Nat.zero_le _
      · dsimp only; rw [hrepeat]; exact Nat.zero_le _
  horn h hh := by
    obtain ⟨-, -, -, -, hsilent, -⟩ := (h.records p).outOfService hout
    exact setPoint_hornLaw_of_silent rfl (fun hs => absurd (hsilent.symm.trans hs) nofun) hh
  slots _ _ hj := hj

theorem optionSet_keepsLaws (s : State) (g : GroupNo) (on : Bool) :
    KeepsLaws s (s.setGroup g ⟨on, optionTable on (s.groupQuiet g) (s.groupRec g).firstOut⟩) where
  lawful h := by
    refine ⟨⟨h.listed, h.order, h.cursor, h.times, h.line, h.shelf, fun g' => ?_, h.uptime⟩, h.records⟩
    have hrec : (s.setGroup g ⟨on, optionTable on (s.groupQuiet g) (s.groupRec g).firstOut⟩).groupRec g' = _ :=
      vector_get_set s.groups g g' _
    rw [hrec]
    split
    next hg =>
      subst hg
      exact (h.group g').optionSet on
    next => exact h.group g'
  horn _ hh := hh
  slots _ _ hj := hj

theorem listPlaced_keepsLaws {m : Mark} {o : Option PointNo}
    (hq : ∀ p, o = some p → p ∈ s.standing ∨ s.cursor = some p ∨ s.mark = .entry p)
    (hm : ∀ p, m = .entry p → s.cursor = some p ∨ s.mark = .entry p) :
    KeepsLaws s { s with cursor := o, mark := m } where
  lawful h := by
    obtain ⟨hcursor, hmark⟩ := h.cursor
    refine ⟨⟨h.listed, h.order, ⟨fun p hp => ?_, fun p hp => ?_⟩, h.times, h.line, h.shelf, h.group, h.uptime⟩, h.records⟩
    · rcases hq p hp with hp | hp | hp
      exacts [hp, hcursor p hp, hmark p hp]
    · rcases hm p hp with hp | hp
      exacts [hcursor p hp, hmark p hp]
  horn _ hh := hh
  slots _ _ hj := hj

theorem classOptionsSet_keepsLaws (s : State) (cls : ClassNo) (o : ClassOptions) :
    KeepsLaws s { s with classOptions := s.classOptions.set cls o }.refreshHorn where
  lawful h := h.of_eq rfl rfl rfl rfl rfl rfl rfl
  horn _ _ := hornLevel_iff _
  slots _ _ hj := hj

end

end Sys2Proof.Machine
end

section
/-!
The second tick, the window boundary and the expiry taken ahead: their outcomes, and what they make of the laws (R28, R29,
R109, R110, R154).
-/

namespace Sys2Proof.Machine

/-! ### Every entry rewritten in turn -/

/-- Rewriting the entries of a vector at distinct places rewrites each of those once. -/
theorem getElem_foldl_set {α : Type} {n : Nat} (f : α → α) {l : List (Fin n)} (hl : l.Nodup) (v : Vector α n) (j : Fin n) :
    (l.foldl (fun v i => v.set i (f v[i])) v)[j] = if j ∈ l then f v[j] else v[j] := by
  induction l generalizing v with
  | nil => simp
  | cons i l ih =>
    obtain ⟨hi, hl⟩ := List.nodup_cons.1 hl
    rw [List.foldl_cons, ih hl, vector_get_set]
    by_cases hj : j = i
    · subst hj
      simp [hi]
    · simp [hj]

theorem foldl_set_finRange {α : Type} {n : Nat} (f : α → α) (v : Vector α n) :
    (List.finRange n).foldl (fun v i => v.set i (f v[i])) v = v.map f := by
  apply Vector.ext
  intro i hi
  have h := getElem_foldl_set f (List.nodup_finRange n) v ⟨i, hi⟩
  rw [if_pos (List.mem_finRange _)] at h
  rw [Vector.getElem_map]
  exact h

section

variable {s t u : State} {p : PointNo} {k : SlotNo}

/-- Two steps that agree on lawful states, where the first keeps the laws, agree when they are taken in turn. -/
theorem foldl_eq_of_lawful {α : Type} {f g : State → α → State} {l : List α}
    (hf : ∀ u a, KeepsLaws u (f u a)) (hfg : ∀ u : State, u.Lawful → ∀ a ∈ l, f u a = g u a) (hs : s.Lawful) :
    l.foldl f s = l.foldl g s := by
  induction l generalizing s with
  | nil => rfl
  | cons a l ih =>
    have ha := hfg s hs a List.mem_cons_self
    rw [List.foldl_cons, List.foldl_cons, ← ha]
    exact ih (fun u hu b hb => hfg u hu b (List.mem_cons_of_mem a hb)) ((hf s a).lawful hs)

/-! ### The uptime increase and the countdown (R109, R154) -/

theorem le_uptimeAfter {n : Nat} (h : n ≤ 0xFFFFFFFE) : n ≤ uptimeAfter n := le_min h (Nat.le_succ n)

theorem beginSecond_of_begun (h : s.second = .begun) : s.beginSecond = s := if_pos h

theorem beginSecond_of_ne (hmax : s.uptime ≤ 0xFFFFFFFE) (h : s.second ≠ .begun) :
    s.beginSecond = { s with uptime := uptimeAfter s.uptime, second := .begun } := by
  have hup : s.beginSecond = { s.increaseUptime with second := .begun } := if_neg h
  rw [hup, increaseUptime_eq s hmax]

theorem beginSecond_keepsLaws (s : State) : KeepsLaws s s.beginSecond where
  lawful h := by
    have huptime : s.uptime ≤ s.beginSecond.uptime ∧ s.beginSecond.uptime ≤ 0xFFFFFFFE := by
      rcases beginSecond_uptime s with h' | ⟨h', hmax⟩
      · rw [h']; exact ⟨le_rfl, h.uptime⟩
      · exact ⟨h' ▸ le_uptimeAfter h.uptime, hmax⟩
    rw [beginSecond_eq]
    exact ⟨h.toLinked.of_ties (fun _ => rfl) rfl rfl rfl rfl (fun _ => rfl) huptime.1 huptime.2, h.records⟩
  horn _ hh := by rw [beginSecond_eq]; exact hh
  slots k r h := by rw [beginSecond_eq] at h; exact h

/-- The slots with one second fewer in each. -/
def lessSecond (slots : Vector (Option SlotRec) 8) : Vector (Option SlotRec) 8 :=
  slots.map (Option.map fun r => { r with remaining := r.remaining - 1 })

theorem countDown_eq (s : State) : s.countDown = { s with slots := lessSecond s.slots } := by
  have hhom := List.foldl_hom (f := fun v : Vector (Option SlotRec) 8 => { s with slots := v }) (l := allSlots)
    (g₁ := fun v (i : SlotNo) => v.set i (v[i].map fun r => { r with remaining := r.remaining - 1 }))
    (g₂ := fun s (k : SlotNo) => s.setSlot k ((s.slot k).map fun r => { r with remaining := r.remaining - 1 }))
    (init := s.slots) fun _ _ => rfl
  exact hhom.trans (congrArg (fun v => { s with slots := v }) (foldl_set_finRange (Option.map _) s.slots))

theorem slot_countDown (s : State) (k : SlotNo) :
    s.countDown.slot k = (s.slot k).map fun r => { r with remaining := r.remaining - 1 } := by
  rw [countDown_eq]
  exact Vector.getElem_map ..

theorem countDown_lawful (h : s.Lawful) : s.countDown.Lawful := by
  have hholder (k : SlotNo) : s.countDown.holder k = s.holder k := by
    unfold State.holder
    rw [slot_countDown, Option.map_map]
    rfl
  rw [countDown_eq] at hholder ⊢
  exact ⟨h.toLinked.of_ties (fun _ => rfl) rfl rfl rfl rfl hholder le_rfl h.uptime, h.records⟩

theorem countDown_hornLaw (h : s.HornLaw) : s.countDown.HornLaw := by
  rw [countDown_eq]
  exact h

theorem slot_countDown_le (h : s.SlotRange) {r : SlotRec} (hk : s.countDown.slot k = some r) : r.remaining ≤ 86400 := by
  rw [slot_countDown] at hk
  obtain ⟨r', hr', rfl⟩ := Option.map_eq_some_iff.1 hk
  exact (Nat.sub_le _ 1).trans (h k r' hr').2

/-! ### The expiries (R109, R110) -/

theorem expireIfDue_keepsLaws (s : State) (k : SlotNo) : KeepsLaws s (s.expireIfDue k) := by
  unfold State.expireIfDue
  split
  next => split; exacts [expireSlot_keepsLaws s k, .refl s]
  next => exact .refl s

/-- What a slot holds once it is judged is not at 0. -/
theorem remaining_of_expireIfDue {r : SlotRec} (h : (s.expireIfDue k).slot k = some r) : r.remaining ≠ 0 := by
  unfold State.expireIfDue at h
  split at h
  next r' hk =>
    split at h
    next => rw [slot_expireSlot, if_pos rfl] at h; cases h
    next hr =>
      rw [hk] at h
      cases h
      exact hr
  next hk => rw [hk] at h; cases h

theorem remaining_of_expiries {l : List SlotNo} {r : SlotRec} (hl : k ∈ l)
    (h : (l.foldl State.expireIfDue s).slot k = some r) : r.remaining ≠ 0 := by
  induction l generalizing s with
  | nil => cases hl
  | cons j l ih =>
    rw [List.foldl_cons] at h
    rcases List.mem_cons.1 hl with rfl | hl
    · exact remaining_of_expireIfDue ((KeepsLaws.foldl expireIfDue_keepsLaws l _).slots _ _ h)
    · exact ih hl h

theorem shelfSecond_keepsLaws (s : State) : KeepsLaws s.countDown s.shelfSecond :=
  .foldl expireIfDue_keepsLaws allSlots s.countDown

theorem shelfSecond_slotRange (h : s.SlotRange) : s.shelfSecond.SlotRange := fun _ r hk =>
  ⟨Nat.one_le_iff_ne_zero.2 (remaining_of_expiries (List.mem_finRange _) hk),
    slot_countDown_le h ((shelfSecond_keepsLaws s).slots _ r hk)⟩

theorem setSecond_keepsLaws (s : State) (x : SecondStage) : KeepsLaws s { s with second := x } :=
  .of_eq rfl rfl rfl rfl rfl rfl rfl rfl rfl

theorem takeSecond_keepsLaws (s : State) : KeepsLaws s.beginSecond.shelfSecond s.takeSecond := by
  unfold State.takeSecond
  generalize s.beginSecond.shelfSecond = u
  exact setSecond_keepsLaws u .taken

theorem takeSecond_lawful (h : s.Lawful) : s.takeSecond.Lawful :=
  ((shelfSecond_keepsLaws _).trans (takeSecond_keepsLaws s)).lawful (countDown_lawful ((beginSecond_keepsLaws s).lawful h))

theorem takeSecond_hornLaw (h : s.Lawful) (hh : s.HornLaw) : s.takeSecond.HornLaw :=
  ((shelfSecond_keepsLaws _).trans (takeSecond_keepsLaws s)).horn (countDown_lawful ((beginSecond_keepsLaws s).lawful h))
    (countDown_hornLaw ((beginSecond_keepsLaws s).horn h hh))

theorem takeSecond_slotRange (h : s.SlotRange) : s.takeSecond.SlotRange :=
  (takeSecond_keepsLaws s).range (shelfSecond_slotRange ((beginSecond_keepsLaws s).range h))

theorem takeBoundary_keepsLaws (s : State) : KeepsLaws s s.takeBoundary := by
  unfold State.takeBoundary
  split_ifs
  exacts [(beginSecond_keepsLaws s).trans (closeWindow_keepsLaws _), closeWindow_keepsLaws s, .refl s]

theorem expireAhead_keepsLaws (s : State) : KeepsLaws s s.expireAhead := by
  unfold State.expireAhead
  split
  · exact .refl s
  · split
    exacts [(beginSecond_keepsLaws s).trans (expireSlot_keepsLaws _ _), .refl s]

/-! ### The outcome of a second tick -/

/-- The record of the second tick written. -/
def State.inSecond (s : State) (x : SecondStage) : State := { s with second := x }

theorem inSecond_inSecond (s : State) (x y : SecondStage) : (s.inSecond x).inSecond y = s.inSecond y := rfl

theorem withCauses_inSecond (s : State) (bits : Byte) (x : SecondStage) :
    (s.inSecond x).withCauses bits = (s.withCauses bits).inSecond x := rfl

theorem arrived_inSecond (s : State) (p : PointNo) (x : SecondStage) :
    (s.inSecond x).arrived p = (s.arrived p).inSecond x := by
  have hpoint : (s.inSecond x).point p = s.point p := rfl
  unfold State.arrived
  rw [hpoint]
  split <;> rfl

theorem expired_inSecond (s : State) (k : SlotNo) (x : SecondStage) :
    (s.inSecond x).expired k = (s.expired k).inSecond x := by
  have hslot : (s.inSecond x).slot k = s.slot k := rfl
  unfold State.expired
  rw [hslot]
  cases s.slot k with
  | none => rfl
  | some r =>
    have harrived : (s.inSecond x).unshelved r.point k = (s.unshelved r.point k).inSecond x :=
      arrived_inSecond (s.freeSlot k r.point) r.point x
    dsimp only
    rw [harrived, withCauses_inSecond]

theorem expiries_inSecond (s : State) (x : SecondStage) : (s.inSecond x).expiries = s.expiries.inSecond x := by
  refine List.foldl_hom (f := fun u : State => u.inSecond x) fun u k => ?_
  have hslot : (u.inSecond x).slot k = u.slot k := rfl
  rw [hslot]
  split
  exacts [expired_inSecond u k x, rfl]

theorem expireIfDue_eq (h : s.Lawful) (k : SlotNo) :
    s.expireIfDue k = if (s.slot k).any (fun r => r.remaining == 0) then s.expired k else s := by
  unfold State.expireIfDue
  cases hk : s.slot k with
  | none => rfl
  | some r =>
    rw [h.expireSlot_eq]
    simp

theorem shelfSecond_eq (h : s.countDown.Lawful) : s.shelfSecond = s.countDown.expiries :=
  foldl_eq_of_lawful expireIfDue_keepsLaws (fun _ hu k _ => expireIfDue_eq hu k) h

theorem takeSecond_eq (h : s.Lawful) : s.takeSecond = s.beginSecond.countDown.expiries.inSecond .taken := by
  have hlaw := countDown_lawful ((beginSecond_keepsLaws s).lawful h)
  unfold State.takeSecond
  rw [shelfSecond_eq hlaw]
  rfl

theorem countDown_beginSecond_of_ne (hmax : s.uptime ≤ 0xFFFFFFFE) (h : s.second ≠ .begun) :
    s.beginSecond.countDown = s.counted.inSecond .begun := by
  rw [beginSecond_of_ne hmax h, countDown_eq]
  rfl

theorem countDown_beginSecond_of_begun (h : s.second = .begun) :
    s.beginSecond.countDown = { s.counted with uptime := s.uptime } := by
  rw [beginSecond_of_begun h, countDown_eq]
  rfl

/-- Settles O55: the second tick begins with the uptime increase unless it has begun, and its expiries are those of the
counted slots. -/
theorem secondTickCountsAndExpires : Obligations.SecondTickCountsAndExpires := by
  intro s hlaws
  obtain ⟨hs, -⟩ := annunciationLaws_iff.1 hlaws
  have hexec : exec .secondTick s = .next s.takeSecond := rfl
  rw [hexec, takeSecond_eq hs]
  refine ⟨fun hne => ?_, fun hbegun => ?_⟩
  · rw [countDown_beginSecond_of_ne hs.uptime hne, expiries_inSecond, inSecond_inSecond]
    rfl
  · rw [countDown_beginSecond_of_begun hbegun]
    rfl

/-! ### The expiry taken ahead (R110) -/

theorem slotDue_eq_none : s.slotDue = none ↔ ∀ k r, s.slot k = some r → 1 < r.remaining := by
  simp only [State.slotDue, List.find?_eq_none, allSlots, List.mem_finRange, true_implies]
  refine forall_congr' fun k => ?_
  cases s.slot k <;> simp

/-- The slot due is the first in its last second. -/
theorem slotDue_eq_some {r : SlotRec} (hk : s.slot k = some r) (hr : r.remaining ≤ 1)
    (hfirst : ∀ j r', j < k → s.slot j = some r' → 1 < r'.remaining) : s.slotDue = some k := by
  refine List.find?_eq_some_iff_getElem.2 ⟨by simp [hk, hr], k.val, by simp [allSlots], by simp [allSlots], fun j hj => ?_⟩
  have hj' : j < 8 := hj.trans k.isLt
  have hget : allSlots[j]'(by simpa [allSlots] using hj') = ⟨j, hj'⟩ := by simp [allSlots]
  rw [hget]
  cases hslot : s.slot ⟨j, hj'⟩ with
  | none => rfl
  | some r' => simpa using hfirst ⟨j, hj'⟩ r' hj hslot

theorem expireAhead_of_taken (h : s.second = .taken) : s.expireAhead = s := if_pos h

theorem expireAhead_of_due (h : s.second ≠ .taken) (hdue : s.slotDue = some k) :
    s.expireAhead = s.beginSecond.expireSlot k := by
  unfold State.expireAhead
  rw [if_neg h, hdue]

theorem expireAhead_of_none (hdue : s.slotDue = none) : s.expireAhead = s := by
  unfold State.expireAhead
  rw [hdue]
  split <;> rfl

/-- Settles O56: in a lawful state a slot at 1 second or fewer is one at 1 second. -/
theorem shelfExpiryReturnsThePoint : Obligations.ShelfExpiryReturnsThePoint := by
  intro s hlaws
  obtain ⟨hs, hrange⟩ := annunciationLaws_iff.1 hlaws
  have hexec : exec .shelfExpiry s = .next s.expireAhead := rfl
  have hlate (k : SlotNo) (r : SlotRec) (hk : s.slot k = some r) (hne : r.remaining ≠ 1) : 1 < r.remaining :=
    lt_of_le_of_ne (hrange k r hk).1 hne.symm
  rw [hexec]
  refine ⟨fun k r hk hr hfirst => ?due, fun hnone => ?none, fun htaken => ?taken⟩
  case due =>
    have hdue := slotDue_eq_some hk hr.le fun j r' hj hslot => hlate j r' hslot (hfirst j r' hj hslot)
    have hbegin := ((beginSecond_keepsLaws s).lawful hs).expireSlot_eq k
    refine ⟨fun hnot => congrArg _ ?_, fun hbegun => congrArg _ ?_⟩
    · have hne : s.second ≠ .begun := by rw [hnot]; nofun
      rw [expireAhead_of_due (by rw [hnot]; nofun) hdue, hbegin, beginSecond_of_ne hs.uptime hne]
    · rw [expireAhead_of_due (by rw [hbegun]; nofun) hdue, hbegin, beginSecond_of_begun hbegun]
  case none =>
    rw [expireAhead_of_none (slotDue_eq_none.2 fun k r hk => hlate k r hk (hnone k r hk))]
  case taken => rw [expireAhead_of_taken htaken]

end

end Sys2Proof.Machine
end

section
/-!
What a sample and a window boundary make of the points with a debouncer and of the buttons (R20 to R29, R117 to R120).
-/

namespace Sys2Proof.Machine

section

variable {s t u : State} {p q : PointNo} {k : LineNo} {c : Condition} {lines : BitVec 32}

/-! ### The points on the lines (R21, R23) -/

/-- Every point is in service as it was, with the source it had. -/
def SameLines (s t : State) : Prop :=
  ∀ q, (t.point q).inService = (s.point q).inService ∧ (t.point q).source = (s.point q).source

namespace SameLines

theorem refl (s : State) : SameLines s s := fun _ => ⟨rfl, rfl⟩

theorem trans (h₁ : SameLines s t) (h₂ : SameLines t u) : SameLines s u := fun q =>
  ⟨(h₂ q).1.trans (h₁ q).1, (h₂ q).2.trans (h₁ q).2⟩

theorem of_seqRecords (h : SeqRecords s t) : SameLines s t := fun q =>
  ⟨h.inService_eq q, h.field_eq (fun r => r.source) (fun _ => rfl) q⟩

theorem of_setPoint {r : PointRec} (hin : r.inService = (s.point p).inService) (hsrc : r.source = (s.point p).source) :
    SameLines s (s.setPoint p r) := by
  intro q
  rw [point_setPoint]
  split
  next hq => rw [hq]; exact ⟨hin, hsrc⟩
  next => exact ⟨rfl, rfl⟩

theorem pointOnLine_eq (h : SameLines s t) (k : LineNo) : t.pointOnLine k = s.pointOnLine k := by
  unfold State.pointOnLine
  simp only [(h _).1, (h _).2]

end SameLines

/-- With one that passes at most, a list is filtered to what it finds. -/
theorem filter_eq_toList_find? {α : Type} {f : α → Bool} {l : List α} (hl : l.Nodup)
    (hone : ∀ a b, f a = true → f b = true → a = b) : l.filter f = (l.find? f).toList := by
  induction l with
  | nil => rfl
  | cons a l ih =>
    obtain ⟨ha, hl⟩ := List.nodup_cons.1 hl
    cases hf : f a with
    | false => simp [hf, ih hl]
    | true =>
      have hnone : l.filter f = [] := List.filter_eq_nil_iff.2 fun b hb hfb => ha (hone a b hf hfb ▸ hb)
      simp [hf, hnone]

/-- The debounced points are those found on the lines, by ascending line (R23). -/
theorem debounced_eq (h : s.LineLaw) : s.debounced = allLines.filterMap s.pointOnLine := by
  rw [List.filterMap_eq_flatMap_toList]
  refine List.flatMap_congr fun k _ => ?_
  have hfind : s.pointOnLine k = (List.finRange 48).find? fun p =>
      decide ((s.point p).inService = true ∧ (s.point p).source = .line k) := by
    unfold State.pointOnLine allPoints
    refine congrArg (fun f => List.find? f _) (funext fun p => ?_)
    rw [Bool.eq_iff_iff]
    simp
  rw [hfind]
  refine filter_eq_toList_find? (List.nodup_finRange 48) fun p q hp hq => ?_
  obtain ⟨hpin, hpk⟩ := of_decide_eq_true hp
  obtain ⟨hqin, hqk⟩ := of_decide_eq_true hq
  exact h p q hpin hqin (by rw [hpk]; nofun) (hpk.trans hqk.symm)

theorem mem_debounced : p ∈ s.debounced ↔ (s.point p).inService = true ∧ (s.point p).source ≠ .host := by
  simp only [State.debounced, List.mem_flatMap, List.mem_finRange, List.mem_filter, decide_eq_true_eq, true_and]
  constructor
  · rintro ⟨k, hin, hsrc⟩
    exact ⟨hin, by rw [hsrc]; nofun⟩
  · rintro ⟨hin, hsrc⟩
    cases h : (s.point p).source with
    | host => exact absurd h hsrc
    | line k => exact ⟨k, hin, rfl⟩

/-- A step on each line that acts at the point found there, and leaves the lines, is a step at each of the points. -/
theorem foldl_onLines {f : State → PointNo → State} {g : State → LineNo → State}
    (hsome : ∀ u k p, u.pointOnLine k = some p → g u k = f u p) (hnone : ∀ u k, u.pointOnLine k = none → g u k = u)
    (hsame : ∀ u k, SameLines u (g u k)) (ks : List LineNo) (s : State) :
    ks.foldl g s = (ks.filterMap s.pointOnLine).foldl f s := by
  induction ks generalizing s with
  | nil => rfl
  | cons k ks ih =>
    have hlines : (g s k).pointOnLine = s.pointOnLine := funext (hsame s k).pointOnLine_eq
    rw [List.foldl_cons, ih, hlines, List.filterMap_cons]
    cases hk : s.pointOnLine k with
    | none => rw [hnone s k hk]
    | some p => rw [hsome s k p hk]; rfl

/-! ### Deliveries -/

theorem delivered_seqRecords (s : State) (p : PointNo) (c : Condition) : SeqRecords (s.withEff p c) (s.delivered p c) := by
  by_cases hshelf : (s.point p).shelf = none
  · cases c with
    | offNormal => rw [delivered_offNormal hshelf]; exact changedTo_seqRecords _ _ _
    | normal => rw [delivered_normal hshelf]; exact changedTo_seqRecords _ _ _
  · rw [delivered_of_shelved hshelf]
    exact .refl _

theorem delivered_sameLines (s : State) (p : PointNo) (c : Condition) : SameLines s (s.delivered p c) := by
  have heff : SameLines s (s.withEff p c) := SameLines.of_setPoint (r := { s.point p with eff := c }) rfl rfl
  exact heff.trans (.of_seqRecords (delivered_seqRecords s p c))

/-- A delivery after a write of the record of `p` has its outcome. -/
theorem State.Lawful.rewritten_deliver_eq {r : PointRec} (h : s.Lawful) (htie : r.tie = (s.point p).tie)
    (hr : r.MayDeliver c) (bits : Byte) : (s.rewritten p r bits).deliver p c = (s.rewritten p r bits).delivered p c :=
  ((h.but p).rewritten htie bits).deliver_eq (by rw [point_rewritten_self]; exact hr)

/-! ### The window boundary (R28, R29) -/

theorem judgePoint_eq_judged (h : s.Lawful) (hin : (s.point p).inService = true) : s.judgePoint p = s.judged p := by
  unfold State.judgePoint State.judged
  dsimp only
  split_ifs with hended hline
  · rw [setCause_eq_withCauses]
    exact h.rewritten_deliver_eq (r := { s.point p with lockout := false }) rfl
      ((h.records p).mayDeliver_ended hin hended.1 hline) 0x08#8
  · rw [setCause_eq_withCauses]
    rfl
  · rfl

theorem judged_sameLines (s : State) (p : PointNo) : SameLines s (s.judged p) := by
  have hlifted : SameLines s (s.rewritten p { s.point p with lockout := false } 0x08#8) :=
    SameLines.of_setPoint (r := { s.point p with lockout := false }) rfl rfl
  unfold State.judged
  dsimp only
  split_ifs
  · exact hlifted.trans (delivered_sameLines _ p .normal)
  · exact hlifted
  · exact SameLines.of_setPoint (r := { s.point p with chatterCount := 0 }) rfl rfl

/-- The outcome of the judgement on one line. -/
def State.judgedOn (s : State) (k : LineNo) : State := (s.pointOnLine k).elim s s.judged

theorem judgeLine_eq_judgedOn (h : s.Lawful) (k : LineNo) : s.judgeLine k = s.judgedOn k := by
  unfold State.judgeLine State.judgedOn
  cases hk : s.pointOnLine k with
  | none => rfl
  | some p => exact judgePoint_eq_judged h (pointOnLine_eq_some hk).1

theorem judgedOn_sameLines (s : State) (k : LineNo) : SameLines s (s.judgedOn k) := by
  unfold State.judgedOn
  cases s.pointOnLine k with
  | none => exact .refl s
  | some p => exact judged_sameLines s p

theorem State.Lawful.closeWindow_eq (h : s.Lawful) : s.closeWindow = s.windowClosed := by
  calc allLines.foldl State.judgeLine s
    _ = allLines.foldl State.judgedOn s := foldl_eq_of_lawful judgeLine_keepsLaws (fun _ hu k _ => judgeLine_eq_judgedOn hu k) h
    _ = (allLines.filterMap s.pointOnLine).foldl State.judged s :=
      foldl_onLines (fun u k p hk => by rw [State.judgedOn, hk]; rfl) (fun u k hk => by rw [State.judgedOn, hk]; rfl)
        judgedOn_sameLines allLines s
    _ = s.windowClosed := by rw [← debounced_eq h.line]; rfl

theorem nextIsBoundary_iff : s.nextIsBoundary = true ↔ s.second = .notBegun ∧ s.uptime < 0xFFFFFFFE ∧ (s.uptime + 1) % 10 = 0 := by
  simp only [State.nextIsBoundary, Bool.and_eq_true, beq_iff_eq, decide_eq_true_eq, and_assoc]
  exact Iff.rfl

theorem takeBoundary_of_next (h : s.nextIsBoundary = true) : s.takeBoundary = s.beginSecond.closeWindow := if_pos h

theorem takeBoundary_of_present (h : ¬ s.nextIsBoundary = true) (h0 : s.uptime ≠ 0) (h10 : s.uptime % 10 = 0) :
    s.takeBoundary = s.closeWindow := (if_neg h).trans (if_pos ⟨h0, h10⟩)

theorem takeBoundary_of_none (h : ¬ s.nextIsBoundary = true) (h10 : ¬ (s.uptime ≠ 0 ∧ s.uptime % 10 = 0)) :
    s.takeBoundary = s := (if_neg h).trans (if_neg h10)

/-- Settles O57: the boundary is at the uptime to come or at the present one, and closing it judges the debounced points. -/
theorem windowBoundaryJudgesTheLockouts : Obligations.WindowBoundaryJudgesTheLockouts := by
  intro s hlaws
  obtain ⟨hs, -⟩ := annunciationLaws_iff.1 hlaws
  have hexec : exec .windowBoundary s = .next s.takeBoundary := rfl
  rw [hexec]
  refine ⟨fun hnot hmax hten => ?_, fun h0 hten => ?_, fun hten hother => ?_, fun h0 => ?_⟩
  · have huptime : uptimeAfter s.uptime = s.uptime + 1 := min_eq_right hmax
    rw [takeBoundary_of_next (nextIsBoundary_iff.2 ⟨hnot, hmax, hten⟩),
      ((beginSecond_keepsLaws s).lawful hs).closeWindow_eq, beginSecond_of_ne hs.uptime (by rw [hnot]; nofun), huptime]
  · have hnext : ¬ s.nextIsBoundary = true := fun h => by
      obtain ⟨-, -, hnext⟩ := nextIsBoundary_iff.1 h
      omega
    rw [takeBoundary_of_present hnext h0 hten, hs.closeWindow_eq]
  · have hnext : ¬ s.nextIsBoundary = true := fun h => by
      obtain ⟨hnot, -, hnext⟩ := nextIsBoundary_iff.1 h
      exact hother.elim (fun h => h hnot) fun h => h hnext
    rw [takeBoundary_of_none hnext fun h => hten h.2]
  · have hnext : ¬ s.nextIsBoundary = true := fun h => by
      obtain ⟨-, -, hnext⟩ := nextIsBoundary_iff.1 h
      omega
    rw [takeBoundary_of_none hnext fun h => h.1 h0]

end

end Sys2Proof.Machine
end

section
/-!
A sample as an order of items: the deliveries of its lines and the accepted levels of its buttons (R20 to R27, R117 to R120).
-/

namespace Sys2Proof.Machine

section

variable {s t u : State} {p q : PointNo} {k : LineNo} {lines : BitVec 32} {pins : BitVec 4}

/-! ### A line's delivery (R22 to R27) -/

theorem sampledFor_eq (hsrc : (s.point p).source = .line k) :
    (s.point p).polarity.read (lines.getLsbD k.val) = s.sampledFor lines p := by
  rw [polarity_read_eq]
  unfold State.sampledFor
  rw [hsrc]

/-- A line's delivery, through the write of the record. -/
theorem dealtWith_eq (s : State) (lines : BitVec 32) (p : PointNo) :
    s.dealtWith lines p =
      if ((s.point p).sampled s.chatterLimit (s.sampledFor lines p)).eff = (s.point p).eff then
        s.rewritten p ((s.point p).read s.chatterLimit (s.sampledFor lines p))
          ((s.point p).chatterBits s.chatterLimit (s.sampledFor lines p))
      else
        (s.rewritten p ((s.point p).read s.chatterLimit (s.sampledFor lines p))
          ((s.point p).chatterBits s.chatterLimit (s.sampledFor lines p))).delivered p
            ((s.point p).sampled s.chatterLimit (s.sampledFor lines p)).eff := rfl

theorem sampledAt_eq_dealtWith (h : s.Lawful) (hin : (s.point p).inService = true) (hsrc : (s.point p).source ≠ .host) :
    s.sampledAt p (s.sampledFor lines p) = s.dealtWith lines p := by
  rw [dealtWith_eq]
  unfold State.sampledAt
  dsimp only
  split
  next => rfl
  next heff => exact h.rewritten_deliver_eq read_tie (read_mayDeliver (h.records p) hin hsrc heff) _

/-- A line of a sample has its outcome at the point found on it. -/
theorem sampleLine_eq_dealtWith (h : s.Lawful) (hk : s.pointOnLine k = some p) : s.sampleLine k = s.dealtWith s.lines p := by
  obtain ⟨hin, hsrc⟩ := pointOnLine_eq_some hk
  have hline : s.sampleLine k = s.debouncePoint p ((s.point p).polarity.read (s.lines.getLsbD k.val)) := by
    unfold State.sampleLine
    rw [hk]
  rw [hline, debouncePoint_eq_sampledAt (h.records p).condition, sampledFor_eq hsrc]
  exact sampledAt_eq_dealtWith h hin (by rw [hsrc]; nofun)

theorem sampleLine_of_none (hk : s.pointOnLine k = none) : s.sampleLine k = s := by
  unfold State.sampleLine
  rw [hk]

/-- What a line's delivery makes of the records, but for the fields of the sequence. -/
theorem dealtWith_seqRecords (s : State) (lines : BitVec 32) (p : PointNo) :
    SeqRecords (s.setPoint p ((s.point p).sampled s.chatterLimit (s.sampledFor lines p))) (s.dealtWith lines p) := by
  rw [dealtWith_eq]
  unfold PointRec.read
  generalize (s.point p).sampled s.chatterLimit (s.sampledFor lines p) = r
  generalize (s.point p).chatterBits s.chatterLimit (s.sampledFor lines p) = bits
  split
  next heff =>
    rw [← heff]
    exact .refl _
  next =>
    refine SeqRecords.trans (fun q => ?_) (delivered_seqRecords _ p r.eff)
    by_cases hq : q = p
    · rw [hq, point_withEff, point_rewritten_self, point_setPoint_self]
    · have hne : (State.withEff (s.rewritten p { r with eff := (s.point p).eff } bits) p r.eff).point q = s.point q :=
        (point_setPoint_ne _ _ hq).trans (point_rewritten_ne hq)
      rw [hne, point_setPoint_ne s r hq]

/-! ### The buttons (R119, R120) -/

theorem pressCounted_eq (s : State) (i : Fin 4) : s.pressCounted (Button.ofIdx i) =
    { s with
      buttons := s.buttons.set i { s.buttons[i] with presses := s.buttons[i].presses + 1#8 } }.withCauses 0x10#8 := by
  unfold State.pressCounted
  rw [setCause_eq_withCauses]
  match i with
  | 0 | 1 | 2 | 3 => rfl

theorem beginButtonTest_eq (s : State) : s.beginButtonTest =
    { s with buttonTest := true, chimeTimer := if s.buttonTest ∨ 0 < s.hostTimer then s.chimeTimer else 500 } := by
  unfold State.beginButtonTest State.lampTestChime
  by_cases h : s.lampTestOn = true
  · rw [if_pos h, if_pos (lampTestOn_iff.1 h)]
  · rw [if_neg h, if_neg (mt lampTestOn_iff.2 h)]
    rfl

theorem buttonAction_eq_buttonDone (h : s.Lawful) (i : Fin 4) : s.buttonAction (Button.ofIdx i) = s.buttonDone i := by
  match i with
  | 0 => exact actOn_eq_actedOn (.inl rfl) h allPoints
  | 1 => exact silenceAll_eq_silenced s
  | 2 => exact actOn_eq_actedOn (.inr rfl) h allPoints
  | 3 => exact beginButtonTest_eq s

theorem pressCounted_keepsLaws (s : State) (b : Button) : KeepsLaws s (s.pressCounted b) :=
  .of_eq rfl rfl rfl rfl rfl rfl rfl rfl rfl

theorem takePress_eq_pressDone (h : s.Lawful) (i : Fin 4) : s.takePress (Button.ofIdx i) = s.pressDone i := by
  have hcounted := buttonAction_eq_buttonDone ((pressCounted_keepsLaws s (Button.ofIdx i)).lawful h) i
  have hlock : s.locked (Button.ofIdx i) = s.lockMask.getLsbD i.val := by
    unfold State.locked
    rw [Button.idx_ofIdx]
  rw [takePress_eq, hcounted, hlock, pressCounted_eq]
  rfl

theorem takeRelease_eq (s : State) (i : Fin 4) :
    s.takeRelease (Button.ofIdx i) = if i = 3 then s.testReleased else s := by
  unfold State.takeRelease
  rw [endButtonTest_eq]
  match i with
  | 0 | 1 | 2 | 3 => rfl

/-- An accepted level has its outcome, where the debouncer holds it. -/
theorem takeButtonEvent_eq_buttonTaken (h : s.Lawful) {i : Fin 4} (hi : s.buttons[i].pressed = pinPressed pins i) :
    s.takeButtonEvent (eventOf pins i) = s.buttonTaken i := by
  unfold eventOf State.buttonTaken
  rw [hi]
  cases pinPressed pins i with
  | true => exact takePress_eq_pressDone h i
  | false => exact takeRelease_eq s i

theorem buttonAction_keepsLaws (s : State) (b : Button) : KeepsLaws s (s.buttonAction b) := by
  cases b with
  | ack => exact actOn_keepsLaws (.inl rfl) s allPoints
  | sil =>
    have hsil : s.buttonAction .sil = s.silenced := silenceAll_eq_silenced s
    rw [hsil]
    exact silenced_keepsLaws s
  | rst => exact actOn_keepsLaws (.inr rfl) s allPoints
  | tst =>
    have htst : s.buttonAction .tst = _ := beginButtonTest_eq s
    rw [htst]
    exact .of_eq rfl rfl rfl rfl rfl rfl rfl rfl rfl

theorem takeButtonEvent_keepsLaws (s : State) (e : ButtonEvent) : KeepsLaws s (s.takeButtonEvent e) := by
  cases e with
  | press b =>
    have hpress : KeepsLaws s (s.takePress b) := by
      rw [takePress_eq]
      split
      · exact pressCounted_keepsLaws s b
      · exact (pressCounted_keepsLaws s b).trans (buttonAction_keepsLaws _ b)
    exact hpress
  | release b =>
    have hrelease : KeepsLaws s (s.takeRelease b) := by
      unfold State.takeRelease
      split
      · rw [endButtonTest_eq]
        rcases testReleased_cases s with h | h <;> rw [h]
        · exact .refl s
        · exact .of_eq rfl rfl rfl rfl rfl rfl rfl rfl rfl
      · exact .refl s
    exact hrelease

/-- A sample keeps the laws of the annunciation. -/
theorem SampleRun.keepsLaws {ks : List LineNo} {es : List ButtonEvent} (h : SampleRun ks es s t) : KeepsLaws s t := by
  induction h with
  | done s => exact .refl s
  | line _ ih => exact (sampleLine_keepsLaws _ _).trans ih
  | event _ ih => exact (takeButtonEvent_keepsLaws _ _).trans ih
  | @ordered n _ _ s _ _ ih =>
    have hindex : KeepsLaws s { s with orderIndex := n } := .of_eq rfl rfl rfl rfl rfl rfl rfl rfl rfl
    exact hindex.trans ih

theorem read_keepsLaws (s : State) (lines : BitVec 32) (pins : BitVec 4) : KeepsLaws s (s.read lines pins) :=
  .of_eq rfl rfl rfl rfl rfl rfl rfl rfl rfl

theorem takeSample_keepsLaws (s : State) (lines : BitVec 32) (pins : BitVec 4) : KeepsLaws s (s.takeSample lines pins) :=
  (read_keepsLaws s lines pins).trans (takeSample_run s lines pins).keepsLaws

/-! ### The free value of the order is no part of an item -/

/-- The count of the orders drawn, written. -/
def State.inOrder (s : State) (n : Nat) : State := { s with orderIndex := n }

theorem delivered_inOrder (s : State) (p : PointNo) (c : Condition) (n : Nat) :
    (s.inOrder n).delivered p c = (s.delivered p c).inOrder n := by
  by_cases hshelf : (s.point p).shelf = none
  · cases c with
    | offNormal => rw [delivered_offNormal hshelf, delivered_offNormal (s := s.inOrder n) hshelf]; rfl
    | normal => rw [delivered_normal hshelf, delivered_normal (s := s.inOrder n) hshelf]; rfl
  · rw [delivered_of_shelved hshelf, delivered_of_shelved (s := s.inOrder n) hshelf]
    rfl

theorem rewritten_inOrder (s : State) (p : PointNo) (r : PointRec) (bits : Byte) (n : Nat) :
    (s.inOrder n).rewritten p r bits = (s.rewritten p r bits).inOrder n := rfl

theorem dealtWith_inOrder (s : State) (lines : BitVec 32) (p : PointNo) (n : Nat) :
    (s.inOrder n).dealtWith lines p = (s.dealtWith lines p).inOrder n := by
  have hpoint : (s.inOrder n).point p = s.point p := rfl
  have hsampled : (s.inOrder n).sampledFor lines p = s.sampledFor lines p := rfl
  have hlimit : (s.inOrder n).chatterLimit = s.chatterLimit := rfl
  rw [dealtWith_eq, dealtWith_eq, hpoint, hsampled, hlimit, rewritten_inOrder]
  split
  exacts [rfl, delivered_inOrder _ p _ n]

theorem actedAt_inOrder (dest : PointRec → Option AnnState) (s : State) (p : PointNo) (n : Nat) :
    State.actedAt dest (s.inOrder n) p = (State.actedAt dest s p).inOrder n := by
  have hpoint : (s.inOrder n).point p = s.point p := rfl
  unfold State.actedAt
  rw [hpoint]
  split <;> rfl

theorem actedOn_inOrder (dest : PointRec → Option AnnState) (s : State) (ps : List PointNo) (n : Nat) :
    (s.inOrder n).actedOn dest ps = (s.actedOn dest ps).inOrder n :=
  List.foldl_hom (f := fun u : State => u.inOrder n) fun u p => actedAt_inOrder dest u p n

theorem buttonDone_inOrder (s : State) (i : Fin 4) (n : Nat) :
    (s.inOrder n).buttonDone i = (s.buttonDone i).inOrder n := by
  match i with
  | 0 => exact actedOn_inOrder PointRec.ackState s _ n
  | 1 => rfl
  | 2 => exact actedOn_inOrder PointRec.resetState s _ n
  | 3 => rfl

theorem pressDone_eq (s : State) (i : Fin 4) : s.pressDone i =
    if s.lockMask.getLsbD i.val then s.pressCounted (Button.ofIdx i) else (s.pressCounted (Button.ofIdx i)).buttonDone i := by
  rw [pressCounted_eq]
  rfl

theorem buttonTaken_inOrder (s : State) (i : Fin 4) (n : Nat) :
    (s.inOrder n).buttonTaken i = (s.buttonTaken i).inOrder n := by
  have hbuttons : (s.inOrder n).buttons = s.buttons := rfl
  have hmask : (s.inOrder n).lockMask = s.lockMask := rfl
  have hcounted : (s.inOrder n).pressCounted (Button.ofIdx i) = (s.pressCounted (Button.ofIdx i)).inOrder n := rfl
  have hreleased : (s.inOrder n).testReleased = s.testReleased.inOrder n := by
    have htest : (s.inOrder n).buttonTest = s.buttonTest := rfl
    unfold State.testReleased
    rw [htest]
    split <;> rfl
  unfold State.buttonTaken
  rw [hbuttons, pressDone_eq, pressDone_eq, hmask, hcounted, hreleased, buttonDone_inOrder]
  split_ifs <;> rfl

/-! ### The order of a sample (R23, R118) -/

theorem sampleLine_lines (s : State) (k : LineNo) : (s.sampleLine k).lines = s.lines := by
  rw [(sampleLine_unitFrame s k).frame]

theorem sampleLine_buttons (s : State) (k : LineNo) : (s.sampleLine k).buttons = s.buttons :=
  (sampleLine_unitFrame s k).buttons_eq

theorem takeButtonEvent_lines (s : State) (e : ButtonEvent) : (s.takeButtonEvent e).lines = s.lines := by
  rw [(takeButtonEvent_keeps s e).frame]

theorem sampleLine_sameLines (h : s.Lawful) (k : LineNo) : SameLines s (s.sampleLine k) := by
  cases hk : s.pointOnLine k with
  | none =>
    rw [sampleLine_of_none hk]
    exact .refl s
  | some p =>
    rw [sampleLine_eq_dealtWith h hk]
    have hset : SameLines s (s.setPoint p ((s.point p).sampled s.chatterLimit (s.sampledFor s.lines p))) :=
      .of_setPoint sampled_inService (tie_field sampled_tie (fun r => r.source) fun _ => rfl)
    exact hset.trans (.of_seqRecords (dealtWith_seqRecords s s.lines p))

theorem actOn_seqRecords (s : State) (ev : SeqEvent) (ps : List PointNo) : SeqRecords s (s.actOn ev ps).1 := by
  rw [actOn_eq_foldl]
  exact List.foldlRecOn ps _ (motive := SeqRecords s) (.refl s) fun u hu p _ => hu.trans (seqEvent_seqRecords u p ev)

theorem buttonAction_seqRecords (s : State) (b : Button) : SeqRecords s (s.buttonAction b) := by
  cases b with
  | ack => exact actOn_seqRecords s .ack allPoints
  | sil =>
    have hsil : s.buttonAction .sil = s.silenced := silenceAll_eq_silenced s
    rw [hsil]
    intro q
    rw [point_silenced]
    rfl
  | rst => exact actOn_seqRecords s .reset allPoints
  | tst =>
    have htst : s.buttonAction .tst = _ := beginButtonTest_eq s
    rw [htst]
    exact fun _ => rfl

/-- A button moves no field of a record but those of the sequence. -/
theorem takeButtonEvent_seqRecords (s : State) (e : ButtonEvent) : SeqRecords s (s.takeButtonEvent e) := by
  cases e with
  | press b =>
    have hpress : SeqRecords s (s.takePress b) := by
      rw [takePress_eq]
      split
      exacts [fun _ => rfl, SeqRecords.trans (fun _ => rfl) (buttonAction_seqRecords (s.pressCounted b) b)]
    exact hpress
  | release b =>
    have hrelease : SeqRecords s (s.takeRelease b) := by
      unfold State.takeRelease
      split
      · rw [endButtonTest_eq]
        rcases testReleased_cases s with h | h <;> rw [h] <;> exact fun _ => rfl
      · exact .refl s
    exact hrelease

/-- A run through the lines and the accepted buttons is an order of their items. -/
theorem SampleRun.order {ks : List LineNo} {es : List ButtonEvent} (hrun : SampleRun ks es s t) {is : List (Fin 4)}
    (hes : es = is.map (eventOf pins)) (hpressed : ∀ i ∈ is, s.buttons[i].pressed = pinPressed pins i) (hs : s.Lawful)
    (n : Nat) :
    ∃ order : List SampleItem, order.filterMap SampleItem.point? = ks.filterMap s.pointOnLine ∧
      order.filterMap SampleItem.button? = is ∧
      t.inOrder n = order.foldl (State.itemTaken s.lines) (s.inOrder n) := by
  induction hrun generalizing is with
  | done s =>
    obtain rfl : is = [] := List.map_eq_nil_iff.1 hes.symm
    exact ⟨[], rfl, rfl, rfl⟩
  | @line k ks es s t hrun ih =>
    have hlines : (s.sampleLine k).pointOnLine = s.pointOnLine := funext (sampleLine_sameLines hs k).pointOnLine_eq
    obtain ⟨order, hpoints, hbuttons, hfold⟩ := ih hes (by rwa [sampleLine_buttons]) ((sampleLine_keepsLaws s k).lawful hs)
    rw [hlines] at hpoints
    rw [sampleLine_lines] at hfold
    cases hk : s.pointOnLine k with
    | none =>
      rw [sampleLine_of_none hk] at hfold
      exact ⟨order, by rw [hpoints, List.filterMap_cons_none hk], hbuttons, hfold⟩
    | some p =>
      rw [sampleLine_eq_dealtWith hs hk, ← dealtWith_inOrder] at hfold
      exact ⟨.point p :: order, by rw [List.filterMap_cons_some hk, ← hpoints]; rfl, hbuttons, hfold⟩
  | @event e ks es s t hrun ih =>
    obtain ⟨i, is', rfl, rfl, rfl⟩ := List.map_eq_cons_iff.1 hes.symm
    have hi := hpressed i List.mem_cons_self
    have hlines : (s.takeButtonEvent (eventOf pins i)).pointOnLine = s.pointOnLine :=
      funext (SameLines.of_seqRecords (takeButtonEvent_seqRecords s _)).pointOnLine_eq
    obtain ⟨order, hpoints, hbuttons, hfold⟩ := ih rfl
      (fun j hj => by
        rw [takeButtonEvent_record, ButtonRec.counted_pressed]
        exact hpressed j (List.mem_cons_of_mem i hj)) ((takeButtonEvent_keepsLaws s _).lawful hs)
    rw [hlines] at hpoints
    rw [takeButtonEvent_lines, takeButtonEvent_eq_buttonTaken hs hi, ← buttonTaken_inOrder] at hfold
    exact ⟨.button i :: order, hpoints, congrArg (i :: ·) hbuttons, hfold⟩
  | @ordered m ks es s t hrun ih =>
    have hindex : KeepsLaws s { s with orderIndex := m } := .of_eq rfl rfl rfl rfl rfl rfl rfl rfl rfl
    exact ih hes hpressed (hindex.lawful hs)

theorem sampled_pressed {i : Fin 4} (h : i ∈ s.acceptedButtons pins) :
    (s.read lines pins).buttons[i].pressed = pinPressed pins i := by
  rw [read_button, ButtonRec.sampled_of_accepts (mem_acceptedButtons.1 h)]

theorem read_sameLines (s : State) (lines : BitVec 32) (pins : BitVec 4) : SameLines s (s.read lines pins) := fun _ => ⟨rfl, rfl⟩

/-- A sample is an order of the debounced points and of the accepted buttons, each in their own. -/
theorem takeSample_order (h : s.Lawful) (lines : BitVec 32) (pins : BitVec 4) :
    ∃ order : List SampleItem, order.filterMap SampleItem.point? = s.debounced ∧
      order.filterMap SampleItem.button? = s.acceptedButtons pins ∧
      (s.takeSample lines pins).inOrder s.orderIndex = order.foldl (State.itemTaken lines) (s.read lines pins) := by
  obtain ⟨order, hpoints, hbuttons, hfold⟩ := (takeSample_run s lines pins).order rfl (fun _ hi => sampled_pressed hi)
    ((read_keepsLaws s lines pins).lawful h) s.orderIndex
  rw [funext (read_sameLines s lines pins).pointOnLine_eq, ← debounced_eq h.line] at hpoints
  exact ⟨order, hpoints, hbuttons, hfold⟩

/-- Settles O50: the order is that of the run through lines and buttons. -/
theorem sampleTakesLinesAndButtonsInOrder : Obligations.SampleTakesLinesAndButtonsInOrder := by
  intro lines pins s hlaws
  obtain ⟨hs, -⟩ := annunciationLaws_iff.1 hlaws
  obtain ⟨order, hpoints, hbuttons, hfold⟩ := takeSample_order hs lines pins
  exact ⟨order, s.takeSample lines pins, rfl, hpoints, hbuttons, hfold⟩

/-! ### The debouncers after a sample (R22 to R27) -/

theorem unsequenced_field {α : Type} {r r' : PointRec} (h : r'.unsequenced = r.unsequenced) (f : PointRec → α)
    (hf : ∀ r : PointRec, f r.unsequenced = f r) : f r' = f r := by rw [← hf r', h, hf]

/-- A debouncer reads and writes no field of the sequence. -/
theorem sampled_unsequenced (r : PointRec) (limit : Nat) (c : Condition) :
    (r.sampled limit c).unsequenced = r.unsequenced.sampled limit c := by
  have haccepts : r.unsequenced.accepts c = r.accepts c := rfl
  cases ha : r.accepts c with
  | true =>
    rw [sampled_of_accepts ha, sampled_of_accepts (haccepts.trans ha)]
    rfl
  | false =>
    rw [sampled_of_not_accepts ha, sampled_of_not_accepts (haccepts.trans ha)]
    rfl

theorem sampledFor_congr (h : (t.point p).unsequenced = (s.point p).unsequenced) :
    t.sampledFor lines p = s.sampledFor lines p := by
  have hsource := unsequenced_field h (fun r => r.source) fun _ => rfl
  have hpolarity := unsequenced_field h (fun r => r.polarity) fun _ => rfl
  have hline := unsequenced_field h (fun r => r.line) fun _ => rfl
  unfold State.sampledFor
  rw [hsource, hpolarity, hline]

/-- The record of a point after a sample of its condition, but for the fields of the sequence. -/
def State.debouncedRecord (s : State) (p : PointNo) : PointRec :=
  ((s.point p).sampled s.chatterLimit (s.sampledFor s.lines p)).unsequenced

theorem debouncedRecord_congr (h : (t.point p).unsequenced = (s.point p).unsequenced) (hlimit : t.chatterLimit = s.chatterLimit)
    (hlines : t.lines = s.lines) : t.debouncedRecord p = s.debouncedRecord p := by
  unfold State.debouncedRecord
  rw [sampled_unsequenced, sampled_unsequenced, h, hlimit, hlines, sampledFor_congr h]

theorem sampleLine_chatterLimit (s : State) (k : LineNo) : (s.sampleLine k).chatterLimit = s.chatterLimit := by
  rw [(sampleLine_unitFrame s k).frame]

theorem takeButtonEvent_chatterLimit (s : State) (e : ButtonEvent) :
    (s.takeButtonEvent e).chatterLimit = s.chatterLimit := by
  rw [(takeButtonEvent_keeps s e).frame]

/-- A line moves the record of the point found on it. -/
theorem sampleLine_unsequenced (h : s.Lawful) (k : LineNo) (p : PointNo) : ((s.sampleLine k).point p).unsequenced =
    if s.pointOnLine k = some p then s.debouncedRecord p else (s.point p).unsequenced := by
  cases hk : s.pointOnLine k with
  | none =>
    rw [sampleLine_of_none hk, if_neg nofun]
  | some q =>
    rw [sampleLine_eq_dealtWith h hk, dealtWith_seqRecords s s.lines q p, point_setPoint]
    by_cases hp : p = q
    · rw [if_pos hp, if_pos (by rw [hp]), hp]
      rfl
    · rw [if_neg hp, if_neg fun e => hp (Option.some.inj e).symm]

theorem pointOnLine_inj {j k : LineNo} (hj : s.pointOnLine j = some p) (hk : s.pointOnLine k = some p) : j = k :=
  Source.line.inj ((pointOnLine_eq_some hj).2.symm.trans (pointOnLine_eq_some hk).2)

/-- A run through distinct lines moves the record of each point found on them once. -/
theorem SampleRun.unsequenced {ks : List LineNo} {es : List ButtonEvent} (hrun : SampleRun ks es s t) (hs : s.Lawful)
    (hks : ks.Nodup) (p : PointNo) : (t.point p).unsequenced =
      if p ∈ ks.filterMap s.pointOnLine then s.debouncedRecord p else (s.point p).unsequenced := by
  induction hrun with
  | done s => rfl
  | @line k ks es s t hrun ih =>
    obtain ⟨hk, hks⟩ := List.nodup_cons.1 hks
    have hlines : (s.sampleLine k).pointOnLine = s.pointOnLine := funext (sampleLine_sameLines hs k).pointOnLine_eq
    have hrecord := sampleLine_unsequenced hs k p
    rw [ih ((sampleLine_keepsLaws s k).lawful hs) hks, hlines]
    by_cases hp : s.pointOnLine k = some p
    · have hnot : p ∉ ks.filterMap s.pointOnLine := fun hmem => by
        obtain ⟨j, hj, hjp⟩ := List.mem_filterMap.1 hmem
        exact hk (pointOnLine_inj hjp hp ▸ hj)
      rw [if_pos hp] at hrecord
      rw [if_neg hnot, hrecord, if_pos (List.mem_filterMap.2 ⟨k, List.mem_cons_self, hp⟩)]
    · rw [if_neg hp] at hrecord
      have hmem : p ∈ (k :: ks).filterMap s.pointOnLine ↔ p ∈ ks.filterMap s.pointOnLine := by
        simp [List.mem_filterMap, hp]
      simp only [hmem, hrecord, debouncedRecord_congr hrecord (sampleLine_chatterLimit s k) (sampleLine_lines s k)]
  | @event e ks es s t hrun ih =>
    have hrecord := takeButtonEvent_seqRecords s e p
    have hlines : (s.takeButtonEvent e).pointOnLine = s.pointOnLine :=
      funext (SameLines.of_seqRecords (takeButtonEvent_seqRecords s e)).pointOnLine_eq
    rw [ih ((takeButtonEvent_keepsLaws s e).lawful hs) hks, hlines, hrecord,
      debouncedRecord_congr hrecord (takeButtonEvent_chatterLimit s e) (takeButtonEvent_lines s e)]
  | @ordered m ks es s t hrun ih =>
    have hindex : KeepsLaws s { s with orderIndex := m } := .of_eq rfl rfl rfl rfl rfl rfl rfl rfl rfl
    exact ih (hindex.lawful hs) hks

theorem allLines_nodup : allLines.Nodup := List.nodup_finRange 32

/-- The records after a sample, but for the fields of the sequence. -/
theorem takeSample_unsequenced (h : s.Lawful) (lines : BitVec 32) (pins : BitVec 4) (p : PointNo) :
    ((s.takeSample lines pins).point p).unsequenced =
      if (s.point p).inService = true ∧ (s.point p).source ≠ .host then
        ((s.point p).sampled s.chatterLimit (s.sampledFor lines p)).unsequenced
      else (s.point p).unsequenced := by
  have hrun := (takeSample_run s lines pins).unsequenced ((read_keepsLaws s lines pins).lawful h) allLines_nodup p
  rw [funext (read_sameLines s lines pins).pointOnLine_eq, ← debounced_eq h.line] at hrun
  simp only [mem_debounced] at hrun
  exact hrun

/-- Settles O51: of the record, what is claimed is no field of the sequence. -/
theorem sampleDebouncesEveryPoint : Obligations.SampleDebouncesEveryPoint := by
  intro lines pins s t p hlaws hexec
  obtain ⟨hs, -⟩ := annunciationLaws_iff.1 hlaws
  obtain rfl := Host.Outcome.next.inj hexec
  have hlines : (s.takeSample lines pins).lines = lines := by
    rw [(takeSample_keeps s lines pins).frame]
    rfl
  have hrecord := takeSample_unsequenced hs lines pins p
  rw [← apply_ite PointRec.unsequenced] at hrecord
  exact ⟨unsequenced_field hrecord (fun r => r.line) fun _ => rfl, unsequenced_field hrecord (fun r => r.run) fun _ => rfl,
    unsequenced_field hrecord (fun r => r.chatterCount) fun _ => rfl,
    unsequenced_field hrecord (fun r => r.lockout) fun _ => rfl, unsequenced_field hrecord (fun r => r.eff) fun _ => rfl,
    hlines⟩

end

end Sys2Proof.Machine
end

section
/-!
The soft reset: its two stages, what they make of the laws, and what they leave (R66, R80, R102).
-/

namespace Sys2Proof.Machine

section

variable {s t u : State} {p q : PointNo}

/-! ### The first stage (R7, R80) -/

theorem foldl_setGroup_allGroups (f : GroupRec → GroupRec) (s : State) :
    allGroups.foldl (fun s g => s.setGroup g (f (s.groupRec g))) s = { s with groups := s.groups.map f } := by
  have hhom := List.foldl_hom (f := fun v : Vector GroupRec 8 => { s with groups := v }) (l := allGroups)
    (g₁ := fun v (i : GroupNo) => v.set i (f v[i])) (g₂ := fun s (g : GroupNo) => s.setGroup g (f (s.groupRec g)))
    (init := s.groups) fun _ _ => rfl
  exact hhom.trans (congrArg (fun v => { s with groups := v }) (foldl_set_finRange f s.groups))

theorem point_cleared (s : State) (p : PointNo) : s.cleared.point p = (s.point p).softReset := by
  simp [State.cleared, State.point, PointRec.softReset]

theorem groupRec_cleared (s : State) (g : GroupNo) : s.cleared.groupRec g = (s.groupRec g).softReset := by
  unfold State.groupRec State.cleared
  exact Vector.getElem_map ..

theorem slot_cleared (s : State) (k : SlotNo) : s.cleared.slot k = none := by
  simp [State.cleared, State.slot]

/-- The first stage has its outcome: with every flag clear HORN is inactive, and with no cause pending so is ATTNn. -/
theorem softResetClear_eq (s : State) : s.softResetClear = s.cleared := by
  have hhorn : s.cleared.hornLevel = false := hornLevel_of_silent fun p => by rw [point_cleared]; rfl
  have hattn : s.cleared.attnLevel = false := by simp [State.cleared, State.attnLevel]
  unfold State.softResetClear
  rw [foldl_setPoint_allPoints PointRec.softReset]
  dsimp only
  rw [foldl_setGroup_allGroups GroupRec.softReset]
  calc _ = { s.cleared with horn := s.cleared.hornLevel, attn := s.cleared.attnLevel } := rfl
    _ = s.cleared := by rw [hhorn, hattn]; rfl

theorem cleared_classOrder (s : State) : s.cleared.ClassOrderLaw := List.Pairwise.nil

/-! ### The second stage (R66) -/

/-- A point re-announced. -/
def State.announced (s : State) (p : PointNo) : State := s.changedTo p (s.point p).seqType.offNormalState

/-- A point that is out of service or normal does not arrive (R38, R66). -/
theorem arriveIfOffNormal_of_not (h : ¬ ((s.point p).inService = true ∧ (s.point p).eff = .offNormal)) :
    s.arriveIfOffNormal p = s := by
  unfold State.arriveIfOffNormal
  split
  next heff =>
    have hnone : s.transition? p .offNormal = none := by
      have hin : (s.point p).inService = false := Bool.eq_false_iff.2 fun hin => h ⟨hin, heff⟩
      simp [State.transition?, hin]
    unfold State.seqEvent
    rw [hnone]
  next => rfl

/-- A cleared point that is in service and off-normal is re-announced. -/
theorem arriveIfOffNormal_of_cleared {r : PointRec} (hr : s.point p = r.softReset) (hin : r.inService = true)
    (hoff : r.line = .offNormal) (horder : s.ClassOrderLaw) : s.arriveIfOffNormal p = s.announced p := by
  have harrived : s.arriveIfOffNormal p = s.arrived p :=
    arriveIfOffNormal_eq_arrived (by rw [hr]; exact hin) (by rw [hr]; rfl) (by rw [hr]; rfl) (by rw [hr]; rfl) horder
  rw [harrived]
  exact if_pos (by rw [hr]; exact hoff)

theorem announced_classOrder (hq : (s.point p).state = .quiet) (horder : s.ClassOrderLaw) :
    (s.announced p).ClassOrderLaw := by
  have hcls := (changedTo_seqRecords s p (s.point p).seqType.offNormalState).cls_eq
  unfold State.ClassOrderLaw State.announced
  simp only [hcls]
  rw [(changedTo_arrival hq (offNormalState_ne_quiet _)).1]
  exact endOfClass_pairwise (rank := fun q => (s.point q).cls) (fun _ _ => rfl) rfl horder

/-- Whether the second stage re-announces a point. -/
def State.returns (s : State) (p : PointNo) : Bool :=
  decide ((s.point p).inService = true ∧ (s.point p).line = .offNormal)

theorem point_announced_ne (h : q ≠ p) : (s.announced p).point q = s.point q := point_changedTo_ne h

/-- The second stage at points still cleared is the re-announcement of those that return. -/
theorem foldl_arriveIfOffNormal {l : List PointNo} (hl : l.Nodup) (hcleared : ∀ p ∈ l, u.point p = (s.point p).softReset)
    (horder : u.ClassOrderLaw) : l.foldl State.arriveIfOffNormal u = (l.filter s.returns).foldl State.announced u := by
  induction l generalizing u with
  | nil => rfl
  | cons p l ih =>
    obtain ⟨hp, hl⟩ := List.nodup_cons.1 hl
    have hpoint := hcleared p List.mem_cons_self
    have hrest (q : PointNo) (hq : q ∈ l) := hcleared q (List.mem_cons_of_mem p hq)
    cases hreturns : s.returns p with
    | true =>
      obtain ⟨hin, hoff⟩ := of_decide_eq_true hreturns
      rw [List.foldl_cons, List.filter_cons_of_pos hreturns, List.foldl_cons,
        arriveIfOffNormal_of_cleared hpoint hin hoff horder]
      refine ih hl (fun q hq => ?_) (announced_classOrder (by rw [hpoint]; rfl) horder)
      rw [point_announced_ne fun e : q = p => hp (e ▸ hq)]
      exact hrest q hq
    | false =>
      have hnot : ¬ ((u.point p).inService = true ∧ (u.point p).eff = .offNormal) := by
        rw [hpoint]
        exact of_decide_eq_false hreturns
      rw [List.foldl_cons, List.filter_cons_of_neg (by rw [hreturns]; nofun), arriveIfOffNormal_of_not hnot]
      exact ih hl hrest horder

/-- The soft reset has its outcome in every state. -/
theorem softResetAll_eq (s : State) : s.softResetAll = s.rebuilt := by
  unfold State.softResetAll State.reannounce
  rw [softResetClear_eq]
  exact foldl_arriveIfOffNormal (List.nodup_finRange 48) (fun p _ => point_cleared s p) (cleared_classOrder s)

/-- The host link written. -/
def State.inLink (s : State) (l : Link) : State := { s with link := l }

theorem rebuilt_inLink (s : State) (l : Link) : (s.inLink l).rebuilt = s.rebuilt.inLink l :=
  List.foldl_hom (f := fun u : State => u.inLink l) (l := s.toAnnounce) (init := s.cleared)
    (g₁ := State.announced) (g₂ := State.announced) fun _ _ => rfl

/-- Settles O29: both stages have their outcome, which does not rest on the link. -/
theorem softResetClearsThenReannounces : Obligations.SoftResetClearsThenReannounces := by
  intro s hready
  refine hostCommand_answered (body := fun s => accept s.softResetAll []) (s' := s.rebuilt) (a := ⟨.ok, []⟩) hready fun l => ?_
  have hbody : State.softResetAll (s.inLink l) = s.rebuilt.inLink l := by rw [softResetAll_eq, rebuilt_inLink]
  exact congrArg (accept · []) hbody

/-! ### The laws (R66) -/

theorem groupQuiet_cleared (s : State) (g : GroupNo) : s.cleared.groupQuiet g = true := rfl

theorem cleared_linked (h : s.Lawful) : s.cleared.Linked where
  listed := ⟨fun p => ⟨nofun, fun ⟨_, _, hq⟩ => absurd (by rw [point_cleared]; rfl) hq⟩, List.nodup_nil⟩
  order := cleared_classOrder s
  cursor := ⟨nofun, nofun⟩
  times p := by
    rw [point_cleared]
    exact ⟨⟨nofun, nofun⟩, nofun, nofun⟩
  line p q := by
    rw [point_cleared, point_cleared]
    exact h.line p q
  shelf p k := by
    unfold State.holder
    rw [point_cleared, slot_cleared]
    exact ⟨nofun, nofun⟩
  group g := by
    rw [groupRec_cleared, groupQuiet_cleared]
    unfold GroupRec.softReset
    cases (s.groupRec g).option with
    | true => exact ⟨⟨nofun, nofun⟩, fun _ => ⟨fun _ => rfl, fun _ => rfl⟩, nofun⟩
    | false => exact ⟨⟨fun _ => rfl, fun _ => rfl⟩, nofun, nofun⟩
  uptime := h.uptime

theorem PointRec.Lawful.softReset_mayArrive {r : PointRec} (h : r.Lawful) (hin : r.inService = true) :
    r.softReset.MayArrive where
  inService := hin
  unshelved := rfl
  quiet := rfl
  silent := rfl
  condition := ⟨nofun, fun _ => rfl, fun _ => ⟨rfl, rfl, rfl⟩⟩
  range := by
    obtain ⟨hlo, hhi, -, -, -⟩ := h.range
    exact ⟨hlo, hhi, hlo, Nat.zero_le _, Nat.zero_le _⟩

theorem PointRec.Lawful.softReset_out {r : PointRec} (h : r.Lawful) (hout : r.inService = false) :
    r.softReset.Lawful ∧ r.line = .normal := by
  obtain ⟨hlo, hhi, -, -, -⟩ := h.range
  obtain ⟨hline, -⟩ := h.outOfService hout
  exact ⟨⟨fun _ => ⟨hline, hline, rfl, rfl, rfl, rfl, rfl, rfl, rfl, rfl, rfl⟩, ⟨nofun, fun _ => rfl, fun _ => ⟨rfl, rfl, rfl⟩⟩,
    ⟨fun _ => .inl rfl, fun _ => nofun, fun hin => absurd (hout.symm.trans hin) nofun, fun hs => absurd rfl hs⟩, nofun,
    ⟨hlo, hhi, hlo, Nat.zero_le _, Nat.zero_le _⟩⟩, hline⟩

/-- The second stage brings the records of the points it comes to into step, and keeps the ties and HORN. -/
theorem reannounce_lawful {l : List PointNo} (h : s.Lawful) (hl : l.Nodup)
    (hcleared : ∀ p ∈ l, u.point p = (s.point p).softReset) (hdone : ∀ p, p ∉ l → (u.point p).Lawful) (hu : u.Linked)
    (hh : u.HornLaw) :
    (l.foldl State.arriveIfOffNormal u).Lawful ∧ (l.foldl State.arriveIfOffNormal u).HornLaw := by
  induction l generalizing u with
  | nil => exact ⟨⟨hu, fun p => hdone p List.not_mem_nil⟩, hh⟩
  | cons p l ih =>
    obtain ⟨hp, hl⟩ := List.nodup_cons.1 hl
    have hpoint := hcleared p List.mem_cons_self
    have hrest (q : PointNo) (hq : q ∈ l) := hcleared q (List.mem_cons_of_mem p hq)
    rw [List.foldl_cons]
    by_cases hin : (s.point p).inService = true
    · have hmay : (u.point p).MayArrive := by
        rw [hpoint]
        exact (h.records p).softReset_mayArrive hin
      have harrived : u.arriveIfOffNormal p = u.arrived p :=
        arriveIfOffNormal_eq_arrived hmay.inService hmay.unshelved hmay.quiet hmay.silent hu.order
      obtain ⟨hlinked, hself, hothers⟩ := hu.arrived hmay
      rw [harrived]
      refine ih hl (fun q hq => ?_) (fun q hq => ?_) hlinked (arrived_hornLaw hh)
      · rw [hothers q fun e => hp (e ▸ hq)]
        exact hrest q hq
      · by_cases hqp : q = p
        · exact hqp ▸ hself
        · rw [hothers q hqp]
          exact hdone q (by simp [hqp, hq])
    · obtain ⟨hout, -⟩ := (h.records p).softReset_out (Bool.eq_false_iff.2 hin)
      have hnot : ¬ ((u.point p).inService = true ∧ (u.point p).eff = .offNormal) := by
        rw [hpoint]
        exact fun hr => hin hr.1
      rw [arriveIfOffNormal_of_not hnot]
      refine ih hl hrest (fun q hq => ?_) hu hh
      by_cases hqp : q = p
      · rw [hqp, hpoint]
        exact hout
      · exact hdone q (by simp [hqp, hq])

theorem cleared_hornLaw (s : State) : s.cleared.HornLaw := by
  refine ⟨nofun, fun ⟨p, hp, _⟩ => ?_⟩
  rw [point_cleared] at hp
  cases hp

theorem softResetAll_lawful (h : s.Lawful) : s.softResetAll.Lawful ∧ s.softResetAll.HornLaw := by
  unfold State.softResetAll State.reannounce
  rw [softResetClear_eq]
  exact reannounce_lawful h (List.nodup_finRange 48) (fun p _ => point_cleared s p)
    (fun p hp => absurd (List.mem_finRange p) hp) (cleared_linked h) (cleared_hornLaw s)

theorem softResetAll_slotRange (s : State) : s.softResetAll.SlotRange := by
  intro k r hk
  have hslot : s.softResetAll.slot k = s.softResetClear.slot k := (reannounce_seqFrame s.softResetClear).slot_eq k
  rw [hslot, softResetClear_eq, slot_cleared] at hk
  cases hk

end

end Sys2Proof.Machine
end

section
/-!
What a soft reset leaves: the list, LGEN, the first-outs and the records, by the points re-announced (R66, R80, R102).
-/

namespace Sys2Proof.Machine

section

variable {s t u : State} {p q : PointNo} {l : List PointNo} {g : GroupNo}

/-! ### The list by class -/

/-- Points by class, those of a class in the order they have. -/
def State.byClass (s : State) (l : List PointNo) : List PointNo :=
  (List.finRange 4).flatMap fun c => l.filter fun p => decide ((s.point p).cls = c)

theorem filter_byClass (f : ClassNo → Bool) (s : State) (l : List PointNo) :
    (s.byClass l).filter (fun q => f (s.point q).cls) =
      (List.finRange 4).flatMap fun c => if f c then l.filter fun p => decide ((s.point p).cls = c) else [] := by
  unfold State.byClass
  rw [List.filter_flatMap]
  refine List.flatMap_congr fun c _ => ?_
  rw [List.filter_filter]
  split
  next hc =>
    refine List.filter_congr fun q _ => ?_
    by_cases hq : (s.point q).cls = c <;> simp [hq, hc]
  next hc =>
    refine List.filter_eq_nil_iff.2 fun q _ hq => hc ?_
    obtain ⟨hf, hq⟩ := Bool.and_eq_true_iff.1 hq
    exact of_decide_eq_true hq ▸ hf

/-- A point put at the end of its class. -/
theorem endOfClass_byClass (s : State) (l : List PointNo) (p : PointNo) :
    s.endOfClass p (s.point p).cls (s.byClass l) = s.byClass (l ++ [p]) := by
  have hlow := filter_byClass (fun c => decide (c ≤ (s.point p).cls)) s l
  have hhigh := filter_byClass (fun c => decide ((s.point p).cls < c)) s l
  unfold State.endOfClass
  rw [hlow, hhigh]
  unfold State.byClass
  have hfour : List.finRange 4 = [0, 1, 2, 3] := by decide
  rw [hfour]
  simp only [List.flatMap_cons, List.flatMap_nil, List.filter_append, List.filter_cons, List.filter_nil, List.append_nil]
  generalize (s.point p).cls = c
  match c with
  | 0 | 1 | 2 | 3 => simp

/-! ### The points re-announced so far -/

/-- A point that holds its group's first-out when it is announced (R70). -/
def State.alertOf (s : State) (g : GroupNo) (p : PointNo) : Bool :=
  decide ((s.point p).group = g ∧ (s.point p).seqType ≠ .status)

/-- The record of a point re-announced. -/
def PointRec.reannounced (r : PointRec) (now : Nat) : PointRec := r.softReset.entered r.seqType.offNormalState now

/-- What the second stage has made of the cleared state once the points of `l` are announced. -/
structure Announced (s : State) (l : List PointNo) (u : State) : Prop where
  standing : u.standing = s.byClass l
  lgen : u.lgen = s.lgen + BitVec.ofNat 16 l.length
  cursor : u.cursor = none
  mark : u.mark = .none
  group : ∀ g, (s.groupRec g).option = true → (u.groupRec g).firstOut = (l.find? (s.alertOf g)).elim .armed .held
  listed : ∀ p ∈ l, u.point p = (s.point p).reannounced s.uptime
  rest : ∀ p, p ∉ l → u.point p = (s.point p).softReset
  uptime : u.uptime = s.uptime

theorem announced_nil (s : State) : Announced s [] s.cleared where
  standing := rfl
  lgen := (BitVec.add_zero _).symm
  cursor := rfl
  mark := rfl
  group g hg := by
    rw [groupRec_cleared]
    exact if_pos hg
  listed _ hp := absurd hp List.not_mem_nil
  rest p _ := point_cleared s p
  uptime := rfl

theorem changedTo_lgen (hq : (s.point p).state = .quiet) (d : AnnState) : (s.changedTo p d).lgen = s.lgen + 1#16 :=
  if_pos (.inl (by simp [hq]))

theorem Announced.cls_eq (h : Announced s l u) (q : PointNo) : (u.point q).cls = (s.point q).cls := by
  by_cases hq : q ∈ l
  · rw [h.listed q hq]; rfl
  · rw [h.rest q hq]; rfl

theorem Announced.snoc (h : Announced s l u) (hp : p ∉ l) : Announced s (l ++ [p]) (u.announced p) := by
  have hpoint := h.rest p hp
  have hquiet : (u.point p).state = .quiet := by rw [hpoint]; rfl
  have htype : (u.point p).seqType = (s.point p).seqType := by rw [hpoint]; rfl
  have hgroup : (u.point p).group = (s.point p).group := by rw [hpoint]; rfl
  obtain ⟨hstanding, hcursor, hmark, hgroups⟩ := changedTo_arrival hquiet (offNormalState_ne_quiet (u.point p).seqType)
  constructor
  case standing =>
    have hend : u.endOfClass p (u.point p).cls u.standing = s.endOfClass p (s.point p).cls u.standing := by
      unfold State.endOfClass
      simp only [h.cls_eq]
    exact hstanding.trans (by rw [hend, h.standing, endOfClass_byClass])
  case lgen =>
    refine (changedTo_lgen hquiet _).trans ?_
    rw [h.lgen, List.length_append, List.length_singleton, BitVec.ofNat_add, BitVec.add_assoc]
  case cursor => exact hcursor.trans h.cursor
  case mark => exact hmark.trans h.mark
  case group =>
    intro g hg
    have hfirst := h.group g hg
    have hrec : (u.announced p).groupRec g = _ := groupRec_of_set hgroups
    rw [hrec, List.find?_append]
    simp only [offNormalState_eq_alarmNew, htype, hgroup]
    by_cases hgp : g = (s.point p).group
    · rw [if_pos hgp, ← hgp, hfirst]
      cases hfind : l.find? (s.alertOf g) with
      | some q => simp
      | none => by_cases hs : (s.point p).seqType = .status <;> simp [State.alertOf, hgp, hs]
    · have hnot : s.alertOf g p = false := decide_eq_false fun ha => hgp ha.1.symm
      rw [if_neg hgp, hfirst]
      simp [hnot]
  case listed =>
    intro q hq
    rcases List.mem_append.1 hq with hq | hq
    · rw [point_announced_ne fun e : q = p => hp (e ▸ hq)]
      exact h.listed q hq
    · rw [List.mem_singleton.1 hq]
      have hself := point_changedTo_self u p (u.point p).seqType.offNormalState
      rw [hpoint, h.uptime] at hself
      unfold State.announced
      rw [hpoint]
      exact hself
  case rest =>
    intro q hq
    rw [List.mem_append, List.mem_singleton, not_or] at hq
    rw [point_announced_ne hq.2]
    exact h.rest q hq.1
  case uptime => exact h.uptime

theorem foldl_announced (hl : l.Nodup) : Announced s l (l.foldl State.announced s.cleared) := by
  induction l using List.reverseRecOn with
  | nil => exact announced_nil s
  | append_singleton l p ih =>
    obtain ⟨hl, -, hp⟩ := List.nodup_append'.1 hl
    rw [List.foldl_append]
    exact (ih hl).snoc fun hmem => List.disjoint_singleton.1 hp hmem

theorem rebuilt_announced (s : State) : Announced s s.toAnnounce s.rebuilt :=
  foldl_announced ((List.nodup_finRange 48).filter _)

/-! ### What a soft reset leaves -/

theorem reannounced_fields (r : PointRec) (now : Nat) :
    (r.reannounced now).state = r.seqType.offNormalState ∧
      (r.reannounced now).sounding = decide (r.seqType ≠ .status) ∧ (r.reannounced now).entryTime = some now ∧
      (r.reannounced now).lastChange = some now ∧ (r.reannounced now).repeatCount = 0 := by
  have hentry : (r.reannounced now).entryTime = some now := if_neg (offNormalState_ne_quiet r.seqType)
  refine ⟨rfl, ?_, hentry, rfl, rfl⟩
  unfold PointRec.reannounced PointRec.entered SeqType.offNormalState
  cases r.seqType <;> rfl

/-- The fields of a record that neither stage writes, and those that no announcement writes. -/
theorem Announced.kept (h : Announced s l u) (p : PointNo) :
    (u.point p).toPointConfig = (s.point p).toPointConfig ∧ (u.point p).inService = (s.point p).inService ∧
      (u.point p).line = (s.point p).line ∧ (u.point p).shelf = none ∧ (u.point p).lockout = false := by
  by_cases hp : p ∈ l
  · rw [h.listed p hp]
    exact ⟨rfl, rfl, rfl, rfl, rfl⟩
  · rw [h.rest p hp]
    exact ⟨rfl, rfl, rfl, rfl, rfl⟩

/-- Settles O30, from what the second stage has made of the cleared state once all are announced. -/
theorem softResetRebuildsTheAnnunciation : Obligations.SoftResetRebuildsTheAnnunciation := by
  intro s t hready hexec off
  have ht := (softResetClearsThenReannounces s hready).symm.trans hexec
  obtain rfl := Host.Outcome.next.inj ht
  have h := rebuilt_announced s
  refine ⟨h.standing, h.lgen, h.cursor, h.mark, fun g hg => (h.group g hg).trans ?_, fun p hp => ?_, fun p hp => ?_, h.kept⟩
  · unfold State.alertOf
    split
    next hfind => rw [hfind]; rfl
    next hfind => rw [hfind]; rfl
  · have hfields := reannounced_fields (s.point p) s.uptime
    rw [← h.listed p hp] at hfields
    exact hfields
  · have hrest := h.rest p hp
    have hfields : (s.rebuilt.point p).state = .quiet ∧ (s.rebuilt.point p).entryTime = none ∧
        (s.rebuilt.point p).lastChange = none := by
      rw [hrest]
      exact ⟨rfl, rfl, rfl⟩
    exact hfields

end

end Sys2Proof.Machine
end

section
/-!
Every step keeps the laws of the annunciation, and HORN follows the sounding points (R3 to R125).
-/

namespace Sys2Proof.Machine

section

variable {c : Instr} {s t : State} {p : PointNo}

/-- The laws of the annunciation are kept, and with them that of HORN. -/
def KeepsAnnunciation (s t : State) : Prop := s.AnnunciationLaws → t.AnnunciationLaws ∧ (s.HornLaw → t.HornLaw)

theorem KeepsLaws.annunciation (h : KeepsLaws s t) : KeepsAnnunciation s t := by
  intro hs
  obtain ⟨hlawful, hrange⟩ := annunciationLaws_iff.1 hs
  exact ⟨annunciationLaws_iff.2 ⟨h.lawful hlawful, h.range hrange⟩, h.horn hlawful⟩

/-- A point is shelved for sixty seconds a minute, of which there are at most a day's (R105). -/
theorem shelve_annunciation {k : SlotNo} {m : Nat} (hin : (s.point p).inService = true) (hshelf : (s.point p).shelf = none)
    (hfree : s.slot k = none) (hlo : 1 ≤ m) (hhi : m ≤ 1440) :
    KeepsAnnunciation s ((s.takeSlot k p (m * 60)).shelveNotice p) := by
  intro hs
  obtain ⟨hlawful, hrange⟩ := annunciationLaws_iff.1 hs
  rw [hlawful.shelve_eq]
  exact ⟨annunciationLaws_iff.2 ⟨shelved_lawful hlawful hin hshelf hfree, shelved_slotRange hrange (by omega) (by omega)⟩,
    fun _ => withdrawnWith_hornLaw⟩

theorem softReset_annunciation (s : State) : KeepsAnnunciation s s.softResetAll := by
  intro hs
  obtain ⟨hlawful, hhorn⟩ := softResetAll_lawful (annunciationLaws_iff.1 hs).1
  exact ⟨annunciationLaws_iff.2 ⟨hlawful, softResetAll_slotRange s⟩, fun _ => hhorn⟩

theorem takeSecond_annunciation (s : State) : KeepsAnnunciation s s.takeSecond := by
  intro hs
  obtain ⟨hlawful, hrange⟩ := annunciationLaws_iff.1 hs
  exact ⟨annunciationLaws_iff.2 ⟨takeSecond_lawful hlawful, takeSecond_slotRange hrange⟩, takeSecond_hornLaw hlawful⟩

/-- Every act of the annunciation keeps its laws. -/
theorem AnnAct.annunciation (h : AnnAct c s t) : KeepsAnnunciation s t := by
  cases h with
  | acted hev ps => exact (actOn_keepsLaws hev s ps).annunciation
  | silenced =>
    rw [silenceAll_eq_silenced]
    exact (silenced_keepsLaws s).annunciation
  | conditionSet cond hin hsrc => exact (changeCondition_keepsLaws hin hsrc cond).annunciation
  | placed hout hline => exact (placePoint_keepsLaws hout hline).annunciation
  | removed hin => exact (removePoint_keepsLaws s _).annunciation
  | shelved hin hshelf hfree hlo hhi => exact shelve_annunciation hin hshelf hfree hlo hhi
  | unshelved hshelf => exact (unshelve_keepsLaws hshelf).annunciation
  | classChanged p cls => exact (changeClass_keepsLaws s p cls).annunciation
  | defined hout hlo hhi => exact (define_keepsLaws hout hlo hhi).annunciation
  | optionSet g on => exact (optionSet_keepsLaws s g on).annunciation
  | listPlaced hq hm => exact (listPlaced_keepsLaws hq hm).annunciation
  | classOptionsSet cls o => exact (classOptionsSet_keepsLaws s cls o).annunciation
  | softReset => exact softReset_annunciation s
  | secondTaken => exact takeSecond_annunciation s
  | boundaryTaken => exact (takeBoundary_keepsLaws s).annunciation
  | expiredAhead => exact (expireAhead_keepsLaws s).annunciation

/-- The rest of the device is not what the laws are about. -/
theorem DevAct.annunciation (h : DevAct s t) : KeepsAnnunciation s t := by
  rw [h.frame]
  exact (KeepsLaws.of_eq rfl rfl rfl rfl rfl rfl rfl rfl rfl).annunciation

theorem Act.annunciation (h : Act c s t) : KeepsAnnunciation s t := by
  cases h with
  | idle => exact fun hs => ⟨hs, id⟩
  | ann h => exact h.annunciation
  | dev h => exact h.annunciation

theorem hardReset_annunciation (s : State) (csLow : Bool) :
    (s.hardReset csLow).AnnunciationLaws ∧ (s.hardReset csLow).HornLaw := by
  obtain ⟨hlawful, hrange⟩ := annunciationLaws_iff.1 reset_annunciationLaws
  have hkeeps : KeepsLaws State.reset (s.hardReset csLow) := .of_eq rfl rfl rfl rfl rfl rfl rfl rfl rfl
  exact ⟨annunciationLaws_iff.2 ⟨hkeeps.lawful hlawful, hkeeps.range hrange⟩, hkeeps.horn hlawful everyLawHoldsAtReset.2.1⟩

theorem exec_annunciation (h : exec c s = .next t) : KeepsAnnunciation s t := by
  have hlink {u : State} (l : Link) : KeepsLaws u { u with link := l } := .of_eq rfl rfl rfl rfl rfl rfl rfl rfl rfl
  intro hs
  by_cases hreset : ∃ csLow, c = .hardReset csLow
  · obtain ⟨csLow, rfl⟩ := hreset
    obtain rfl := Host.Outcome.next.inj h
    obtain ⟨hlaws, hhorn⟩ := hardReset_annunciation s csLow
    exact ⟨hlaws, fun _ => hhorn⟩
  · by_cases hsample : ∃ lines pins, c = .sample lines pins
    · obtain ⟨lines, pins, rfl⟩ := hsample
      obtain rfl := Host.Outcome.next.inj h
      exact (takeSample_keepsLaws s lines pins).annunciation hs
    · push Not at hreset hsample
      obtain ⟨l, l', u, hact, rfl⟩ := exec_inv hreset hsample h
      obtain ⟨hl, hlhorn⟩ := (hlink l).annunciation hs
      obtain ⟨hu, huhorn⟩ := hact.annunciation hl
      obtain ⟨ht, hthorn⟩ := (hlink (u := u) l').annunciation hu
      exact ⟨ht, fun hh => hthorn (huhorn (hlhorn hh))⟩

theorem step_annunciation (h : step s = .next t) : KeepsAnnunciation s t := by
  have hpending (cs : List Instr) : KeepsLaws s { s with pending := cs } := .of_eq rfl rfl rfl rfl rfl rfl rfl rfl rfl
  intro hs
  rcases step_cases h with rfl | ⟨c, cs, hexec⟩
  · exact ⟨hs, id⟩
  · obtain ⟨hcs, hhorn⟩ := (hpending cs).annunciation hs
    obtain ⟨ht, hthorn⟩ := exec_annunciation hexec hcs
    exact ⟨ht, fun hh => hthorn (hhorn hh)⟩

/-- Settles O4: the laws are kept by every act, by every sample and by the reset. -/
theorem stepKeepsTheAnnunciationLaws : Obligations.StepKeepsTheAnnunciationLaws := fun _ _ hs hstep =>
  (step_annunciation hstep hs).1

/-- Settles O5: HORN's law is kept where those of the annunciation hold. -/
theorem stepKeepsTheHornLaw : Obligations.StepKeepsTheHornLaw := fun _ _ hs hh hstep => (step_annunciation hstep hs).2 hh

end

end Sys2Proof.Machine
end

section
/-!
REMOVE FROM SERVICE, SET CLASS, ACKNOWLEDGE and RESET POINTS: their checks and their effects (R14 to R18, R47, R50, R51).
-/

namespace Sys2Proof.Machine

section

variable {s t u : State} {p q : PointNo} {c : ClassNo} {point cls scope : Byte} {ev : SeqEvent}

theorem link_keepsLaws (s : State) (l : Link) : KeepsLaws s { s with link := l } := .of_eq rfl rfl rfl rfl rfl rfl rfl rfl rfl

/-! ### REMOVE FROM SERVICE (R14, R15) -/

theorem removeFromService_noSuch (h : 48 ≤ point.toNat) : s.removeFromService point = refuse .noSuch s := by
  simp only [State.removeFromService, pointNo?_eq_none h]

theorem removeFromService_outOfService (hp : point.toNat = p.val) (hin : (s.point p).inService = false) :
    s.removeFromService point = refuse .outOfService s := by
  simp [State.removeFromService, pointNo?_eq_some hp, hin]

theorem removeFromService_ok (hp : point.toNat = p.val) (hin : (s.point p).inService = true) :
    s.removeFromService point = accept (s.removePoint p) [] := by
  simp [State.removeFromService, pointNo?_eq_some hp, hin]

theorem removePoint_inService (s : State) (p : PointNo) : ((s.removePoint p).point p).inService = false := by
  have hpoint : (s.removePoint p).point p = (((s.leaveList p).freeSlotOf p).point p).withdrawn := point_setPoint_self _ p _
  rw [hpoint]
  rfl

theorem removed_link (s : State) (p : PointNo) (l : Link) :
    { s with link := l }.removed p = { s.removed p with link := l } := rfl

/-- Settles O22: the checks are those of `State.removeFromService`; carried out, the change is `State.removed`. -/
theorem removeFromServiceChecksAndEffect : Obligations.RemoveFromServiceChecksAndEffect := by
  refine ⟨fun point s hready => ⟨fun hpoint => ?noSuch, fun p hpoint hin => ?outOfService, fun p hpoint hin => ?carried⟩,
    fun point p s hready hlaws hpoint hin => ?effect⟩
  case noSuch => exact hostCommand_refused (body := State.removeFromService point) hready fun _ => removeFromService_noSuch hpoint
  case outOfService =>
    exact hostCommand_refused (body := State.removeFromService point) hready fun _ => removeFromService_outOfService hpoint hin
  case carried =>
    have hbody (l : Link) : State.removeFromService point { s with link := l } = accept ({ s with link := l }.removePoint p) [] :=
      removeFromService_ok hpoint hin
    obtain ⟨l, hexec⟩ := hostCommand_answered_exists (c := .removeFromService point) (body := State.removeFromService point)
      (a := ⟨.ok, []⟩) hready fun l => by rw [hbody]; rfl
    refine ⟨_, hexec, ?_, rfl⟩
    rw [hbody]
    exact removePoint_inService _ p
  case effect =>
    obtain ⟨hs, -⟩ := annunciationLaws_iff.1 hlaws
    refine hostCommand_answered (body := State.removeFromService point) (s' := s.removed p) (a := ⟨.ok, []⟩) hready fun l => ?_
    have hin' : ({ s with link := l }.point p).inService = true := hin
    rw [removeFromService_ok hpoint hin', ((link_keepsLaws s l).lawful hs).removePoint_eq, removed_link]
    rfl

/-! ### SET CLASS (R17, R18) -/

theorem setClass_noSuch (h : 48 ≤ point.toNat) : s.setClass point cls = refuse .noSuch s := by
  simp only [State.setClass, pointNo?_eq_none h]

theorem setClass_badValue (hp : point.toNat < 48) (hc : 4 ≤ cls.toNat) : s.setClass point cls = refuse .badValue s := by
  have hpoint : point.toNat = (⟨point.toNat, hp⟩ : PointNo).val := rfl
  simp only [State.setClass, pointNo?_eq_some hpoint, classNo?_eq_none hc]

theorem setClass_ok (hp : point.toNat = p.val) (hc : cls.toNat = c.val) :
    s.setClass point cls = accept (s.changeClass p c) [] := by
  simp only [State.setClass, pointNo?_eq_some hp, classNo?_eq_some hc]

theorem reclassed_link (s : State) (p : PointNo) (c : ClassNo) (l : Link) :
    { s with link := l }.reclassed p c = { s.reclassed p c with link := l } := rfl

/-- Settles O23: the class field alone is written unless a listed point's class changes, and then the entry moves. -/
theorem setClassMovesTheEntry : Obligations.SetClassMovesTheEntry := by
  intro point cls s hready
  refine ⟨fun hpoint => ?noSuch, fun hpoint hcls => ?badValue, fun p c hpoint hcls hfield => ?field,
    fun p c hpoint hcls hlaws hp hne => ?moved⟩
  case noSuch => exact hostCommand_refused (body := State.setClass point cls) hready fun _ => setClass_noSuch hpoint
  case badValue => exact hostCommand_refused (body := State.setClass point cls) hready fun _ => setClass_badValue hpoint hcls
  case field =>
    refine hostCommand_answered (body := State.setClass point cls) (s' := s.setPoint p { s.point p with cls := c })
      (a := ⟨.ok, []⟩) hready fun l => ?_
    rw [setClass_ok hpoint hcls, changeClass_of_unlisted (s := { s with link := l }) hfield]
    rfl
  case moved =>
    obtain ⟨hs, -⟩ := annunciationLaws_iff.1 hlaws
    refine hostCommand_answered (body := State.setClass point cls) (s' := s.reclassed p c) (a := ⟨.ok, []⟩) hready fun l => ?_
    rw [setClass_ok hpoint hcls, changeClass_of_listed (s := { s with link := l }) hs.order hp hne, reclassed_link]
    rfl

/-! ### Actions with a scope (R47, R49 to R51) -/

/-- The record of a point after an action. -/
def PointRec.acted (r : PointRec) (dest : PointRec → Option AnnState) (now : Nat) : PointRec :=
  match dest r with
  | some d => r.entered d now
  | none => r

theorem point_actedAt (dest : PointRec → Option AnnState) (s : State) (p q : PointNo) :
    (State.actedAt dest s p).point q = if q = p then (s.point p).acted dest s.uptime else s.point q := by
  unfold State.actedAt PointRec.acted
  cases dest (s.point p) with
  | some d => exact point_changedTo s p d q
  | none =>
    dsimp only
    split
    next h => rw [h]
    next => rfl

theorem actedAt_uptime (dest : PointRec → Option AnnState) (s : State) (p : PointNo) :
    (State.actedAt dest s p).uptime = s.uptime := by
  unfold State.actedAt
  split <;> rfl

/-- An action at distinct points moves the record of each of them once. -/
theorem point_actedOn {dest : PointRec → Option AnnState} {ps : List PointNo} (hps : ps.Nodup) (s : State) (q : PointNo) :
    (s.actedOn dest ps).point q = if q ∈ ps then (s.point q).acted dest s.uptime else s.point q := by
  rw [actedOn_eq_foldl]
  induction ps generalizing s with
  | nil => rfl
  | cons p ps ih =>
    obtain ⟨hp, hps⟩ := List.nodup_cons.1 hps
    rw [List.foldl_cons, ih hps, point_actedAt, actedAt_uptime]
    by_cases hq : q = p
    · subst hq
      simp [hp]
    · simp [hq]

theorem changeCount_congr {dest : PointRec → Option AnnState} {ps : List PointNo} (h : ∀ p ∈ ps, t.point p = s.point p) :
    t.changeCount dest ps = s.changeCount dest ps := List.countP_congr fun p hp => by rw [h p hp]

/-- The count of an action is that of the points it changes, as they stand before it. -/
theorem actOn_count {ps : List PointNo} (hev : ev = .ack ∨ ev = .reset) (hs : s.Lawful) (hps : ps.Nodup) :
    (s.actOn ev ps).2 = s.changeCount ev.dest ps := by
  have h (n : Nat) : (ps.foldl (actAt ev) (s, n)).2 = n + s.changeCount ev.dest ps := by
    induction ps generalizing s n with
    | nil => rfl
    | cons p ps ih =>
      obtain ⟨hp, hps⟩ := List.nodup_cons.1 hps
      have hstate : (actAt ev (s, n) p).1 = State.actedAt ev.dest s p :=
        (actAt_eq_seqEvent ev (s, n) p).trans (seqEvent_eq_actedAt hev hs p)
      have hcount : (actAt ev (s, n) p).2 = n + if (ev.dest (s.point p)).isSome then 1 else 0 := by
        rw [← transition?_action hev hs p]
        unfold actAt
        cases s.transition? p ev <;> rfl
      have hrest : (State.actedAt ev.dest s p).changeCount ev.dest ps = s.changeCount ev.dest ps :=
        changeCount_congr fun q hq => by
          rw [point_actedAt, if_neg]
          rintro rfl
          exact hp hq
      have hpair : actAt ev (s, n) p = (State.actedAt ev.dest s p, n + if (ev.dest (s.point p)).isSome then 1 else 0) :=
        Prod.ext hstate hcount
      rw [List.foldl_cons, hpair, ih ((actedAt_keepsLaws ev.dest_actedTo s p).lawful hs) hps, hrest]
      unfold State.changeCount
      rw [List.countP_cons]
      omega
  exact (h 0).trans (Nat.zero_add _)

theorem scopeOf_eq_badValue (h : scope.toNat / 64 = 3 ∨ (scope.toNat / 64 = 2 ∧ scope.toNat ≠ 128)) :
    scopeOf scope = .error .badValue := by
  have hkind := toNat_field scope 6 2
  rcases h with h | ⟨h, hne⟩
  · have hk : (scope.extractLsb' 6 2).toNat = 3 := by omega
    simp [scopeOf, hk]
  · have hk : (scope.extractLsb' 6 2).toNat = 2 := by omega
    have hn : scope.toNat % 64 ≠ 0 := by omega
    simp [scopeOf, hk, hn]

theorem scopeOf_eq_noSuch (h : (48 ≤ scope.toNat ∧ scope.toNat < 64) ∨ (72 ≤ scope.toNat ∧ scope.toNat < 128)) :
    scopeOf scope = .error .noSuch := by
  have hkind := toNat_field scope 6 2
  have hnumber := toNat_field scope 0 6
  rcases h with ⟨hlo, hhi⟩ | ⟨hlo, hhi⟩
  · have hk : (scope.extractLsb' 6 2).toNat = 0 := by omega
    have hn : ¬ (scope.extractLsb' 0 6).toNat < 48 := by omega
    simp only [scopeOf, hk, dif_neg hn]
  · have hk : (scope.extractLsb' 6 2).toNat = 1 := by omega
    have hn : ¬ (scope.extractLsb' 0 6).toNat < 8 := by omega
    simp only [scopeOf, hk, dif_neg hn]

theorem scopeOf_eq_ok {sc : Scope} (h : scope.toNat = sc.byteValue) : scopeOf scope = .ok sc := by
  have hkind := toNat_field scope 6 2
  have hnumber := toNat_field scope 0 6
  cases sc with
  | point p =>
    have hp : scope.toNat = p.val := h
    have hk : (scope.extractLsb' 6 2).toNat = 0 := by omega
    have hn : (scope.extractLsb' 0 6).toNat = p.val := by omega
    simp [scopeOf, hk, hn]
  | group g =>
    have hg : scope.toNat = 64 + g.val := h
    have hk : (scope.extractLsb' 6 2).toNat = 1 := by omega
    have hn : (scope.extractLsb' 0 6).toNat = g.val := by omega
    simp [scopeOf, hk, hn]
  | all =>
    have hall : scope.toNat = 128 := h
    have hk : (scope.extractLsb' 6 2).toNat = 2 := by omega
    have hn : (scope.extractLsb' 0 6).toNat = 0 := by omega
    simp [scopeOf, hk, hn]

theorem scopePoints_eq_covered (s : State) (sc : Scope) : s.scopePoints sc = s.covered sc := by
  cases sc with
  | point p => rfl
  | group g => rfl
  | all => rfl

theorem covered_nodup (s : State) (sc : Scope) : (s.covered sc).Nodup := by
  cases sc with
  | point p => exact List.nodup_singleton p
  | group g =>
    have h : ((List.finRange 48).filter fun p => decide ((s.point p).group = g)).Nodup := (List.nodup_finRange 48).filter _
    exact h
  | all => exact List.nodup_finRange 48

theorem scopedAction_error {r : Result} (h : scopeOf scope = .error r) : State.scopedAction ev scope s = refuse r s := by
  unfold State.scopedAction
  rw [h]

theorem scopedAction_ok {sc : Scope} (hev : ev = .ack ∨ ev = .reset) (hs : s.Lawful) (h : scopeOf scope = .ok sc) :
    State.scopedAction ev scope s =
      accept (s.actedOn ev.dest (s.covered sc)) [BitVec.ofNat 8 (s.changeCount ev.dest (s.covered sc))] := by
  unfold State.scopedAction
  rw [h]
  dsimp only
  rw [scopePoints_eq_covered, actOn_eq_actedOn hev hs, actOn_count hev hs (covered_nodup s sc)]
  rfl

theorem actedOn_inLink (dest : PointRec → Option AnnState) (s : State) (ps : List PointNo) (l : Link) :
    (s.inLink l).actedOn dest ps = (s.actedOn dest ps).inLink l := by
  refine List.foldl_hom (f := fun u : State => u.inLink l) fun u p => ?_
  have hpoint : (u.inLink l).point p = u.point p := rfl
  rw [hpoint]
  split <;> rfl

/-- What ACKNOWLEDGE and RESET POINTS have in common, the command apart (R47, R49). -/
theorem hostCommand_scopedAction (c : Instr) (hev : ev = .ack ∨ ev = .reset) (scope : Byte) (s : State) (hready : s.Ready) :
    (scope.toNat / 64 = 3 ∨ (scope.toNat / 64 = 2 ∧ scope.toNat ≠ 128) →
      hostCommand c (State.scopedAction ev scope) s = .next { s with link := s.answered c .badValue [] }) ∧
    ((48 ≤ scope.toNat ∧ scope.toNat < 64) ∨ (72 ≤ scope.toNat ∧ scope.toNat < 128) →
      hostCommand c (State.scopedAction ev scope) s = .next { s with link := s.answered c .noSuch [] }) ∧
    (∀ sc : Scope, scope.toNat = sc.byteValue → s.AnnunciationLaws →
      hostCommand c (State.scopedAction ev scope) s = .next { s.actedOn ev.dest (s.covered sc) with
        link := s.answered c .ok [BitVec.ofNat 8 (s.changeCount ev.dest (s.covered sc))] }) := by
  refine ⟨fun h => ?bad, fun h => ?noSuch, fun sc hsc hlaws => ?carried⟩
  case bad => exact hostCommand_refused hready fun _ => scopedAction_error (scopeOf_eq_badValue h)
  case noSuch => exact hostCommand_refused hready fun _ => scopedAction_error (scopeOf_eq_noSuch h)
  case carried =>
    obtain ⟨hs, -⟩ := annunciationLaws_iff.1 hlaws
    refine hostCommand_answered (body := State.scopedAction ev scope) (s' := s.actedOn ev.dest (s.covered sc))
      (a := ⟨.ok, [BitVec.ofNat 8 (s.changeCount ev.dest (s.covered sc))]⟩) hready fun l => ?_
    have hlink := actedOn_inLink ev.dest s (s.covered sc) l
    refine (scopedAction_ok hev ((link_keepsLaws s l).lawful hs) (scopeOf_eq_ok hsc)).trans ?_
    exact congrArg (accept · [BitVec.ofNat 8 (s.changeCount ev.dest (s.covered sc))]) hlink

/-- Settles O26: both commands are one action on the points of a scope. -/
theorem acknowledgeAndResetActOnTheirScope : Obligations.AcknowledgeAndResetActOnTheirScope :=
  ⟨fun scope s hready => hostCommand_scopedAction (.acknowledge scope) (.inl rfl) scope s hready,
    fun scope s hready => hostCommand_scopedAction (.resetPoints scope) (.inr rfl) scope s hready⟩

/-! ### ACKNOWLEDGE of scope ALL (R50) -/

/-- An acknowledged point does not await acknowledgement. -/
theorem acted_ackState {r : PointRec} (h : r.StateLaw) (now : Nat) :
    (r.acted PointRec.ackState now).state ≠ .alarmNew ∧ (r.acted PointRec.ackState now).state ≠ .clearedNew := by
  obtain ⟨hstatus, -⟩ := h
  cases hd : r.ackState with
  | some d =>
    have hacted : r.acted PointRec.ackState now = r.entered d now := by
      unfold PointRec.acted
      rw [hd]
    rw [hacted]
    have hstate : (r.entered d now).state = d := rfl
    rw [hstate]
    unfold PointRec.ackState at hd
    split_ifs at hd <;> cases hd <;> exact ⟨nofun, nofun⟩
  | none =>
    have hacted : r.acted PointRec.ackState now = r := by
      unfold PointRec.acted
      rw [hd]
    rw [hacted]
    unfold PointRec.ackState at hd
    split_ifs at hd with hs hnew hcleared
    · rcases hstatus hs with h | h <;> simp [h]
    · exact ⟨hnew, hcleared⟩

/-- Settles O27: with no point awaiting acknowledgement none sounds, and HORN follows. -/
theorem acknowledgeAllLeavesNothingNew : Obligations.AcknowledgeAllLeavesNothingNew := by
  intro s t hready hlaws hhorn hexec
  obtain ⟨-, -, hall⟩ := acknowledgeAndResetActOnTheirScope.1 0x80#8 s hready
  have hcarried := hall .all rfl hlaws
  have hmem (p : PointNo) : p ∈ s.covered .all := List.mem_finRange p
  have hrec (p : PointNo) := (point_actedOn (dest := PointRec.ackState) (covered_nodup s .all) s p).trans (if_pos (hmem p))
  generalize s.covered .all = ps at hcarried hrec
  have hstate (p : PointNo) : (t.point p).state ≠ .alarmNew ∧ (t.point p).state ≠ .clearedNew := by
    have hpoint : t.point p = (s.point p).acted PointRec.ackState s.uptime := by
      rw [← Host.Outcome.next.inj (hcarried.symm.trans hexec)]
      exact hrec p
    rw [hpoint]
    exact acted_ackState ((annunciationLaws_iff.1 hlaws).1.records p).state s.uptime
  obtain ⟨hlaws', hhorn'⟩ := exec_annunciation hexec hlaws
  refine ⟨Bool.eq_false_iff.2 fun h => ?_, hstate⟩
  obtain ⟨p, hp, -⟩ := (hhorn' hhorn).1 h
  obtain ⟨hnew, -⟩ := ((annunciationLaws_iff.1 hlaws').1.records p).sounding hp
  exact hnew.elim (hstate p).1 (hstate p).2

end

end Sys2Proof.Machine
end

section
/-!
What becomes of a shelved point: it comes off the shelf, or keeps its slot, its times and its repeat count (R45, R107).
-/

namespace Sys2Proof.Machine

section

variable {s t u : State} {p q : PointNo} {c : Instr}

/-! ### The points that an operation on one leaves -/

/-- The records of the other points are as they were. -/
def SameBut (q : PointNo) (s t : State) : Prop := ∀ p, p ≠ q → t.point p = s.point p

namespace SameBut

theorem refl (s : State) : SameBut q s s := fun _ _ => rfl

theorem trans (h₁ : SameBut q s t) (h₂ : SameBut q t u) : SameBut q s u := fun p hp => (h₂ p hp).trans (h₁ p hp)

theorem setPoint (s : State) (r : PointRec) : SameBut q s (s.setPoint q r) := fun _ hp => point_setPoint_ne s r hp

end SameBut

section

variable (s : State) (p : PointNo)

theorem enterList_sameBut : SameBut p s (s.enterList p) :=
  SameBut.trans (t := s.listInsert p) (fun _ _ => rfl) (.setPoint _ _)

theorem leaveList_sameBut : SameBut p s (s.leaveList p) := by
  unfold State.leaveList
  split
  · exact SameBut.trans (t := s.listRemove p) (fun _ _ => rfl) (.setPoint _ _)
  · exact .refl s

theorem groupNotice_sameBut (n : Notice) : SameBut p s (s.groupNotice n p) := fun _ _ => rfl

theorem reportList_sameBut (old new : AnnState) : SameBut p s (s.reportList p old new) := by
  unfold State.reportList
  split
  · dsimp only
    split
    · exact (enterList_sameBut s p).trans (groupNotice_sameBut _ p _)
    · exact enterList_sameBut s p
  · split
    · exact (leaveList_sameBut s p).trans (groupNotice_sameBut _ p _)
    · exact .refl s

theorem reportAudible_sameBut (new : AnnState) (b : Bool) : SameBut p s (s.reportAudible p new b) := by
  rw [reportAudible_eq]
  exact fun _ _ => rfl

theorem applyTransition_sameBut (tr : Transition) : SameBut p s (s.applyTransition p tr) :=
  SameBut.trans (t := (s.recordChange p tr).reportList p (s.point p).state tr.dest)
    (SameBut.trans (t := s.recordChange p tr) (.setPoint s _) (reportList_sameBut _ p _ _)) (reportAudible_sameBut _ p _ _)

theorem shelveNotice_sameBut : SameBut p s (s.shelveNotice p) := by
  unfold State.shelveNotice
  extract_lets r withRecord
  have hrecord : SameBut p s withRecord := .setPoint s _
  clear_value withRecord
  exact hrecord.trans (leaveList_sameBut withRecord p)

end

/-! ### Off the shelf, or as it was -/

/-- A point is off the shelf, or on its slot with the last change and repeat count that it had. -/
def StillShelved (p : PointNo) (s t : State) : Prop :=
  (t.point p).shelf = none ∨ ((t.point p).shelf = (s.point p).shelf ∧ (t.point p).lastChange = (s.point p).lastChange ∧
    (t.point p).repeatCount = (s.point p).repeatCount)

namespace StillShelved

theorem refl (s : State) : StillShelved p s s := .inr ⟨rfl, rfl, rfl⟩

theorem trans (h₁ : StillShelved p s t) (h₂ : StillShelved p t u) : StillShelved p s u := by
  rcases h₂ with h₂ | ⟨hshelf, hlast, hrepeat⟩
  · exact .inl h₂
  · rcases h₁ with h₁ | ⟨hshelf', hlast', hrepeat'⟩
    · exact .inl (hshelf.trans h₁)
    · exact .inr ⟨hshelf.trans hshelf', hlast.trans hlast', hrepeat.trans hrepeat'⟩

theorem foldl {α : Type} {f : State → α → State} (hf : ∀ s a, StillShelved p s (f s a)) (l : List α) (s : State) :
    StillShelved p s (l.foldl f s) :=
  List.foldlRecOn l f (motive := StillShelved p s) (refl s) fun u hu a _ => hu.trans (hf u a)

theorem of_point (h : t.point p = s.point p) : StillShelved p s t := by
  unfold StillShelved
  rw [h]
  exact .inr ⟨rfl, rfl, rfl⟩

theorem of_points (h : t.points = s.points) : StillShelved p s t := by
  refine of_point ?_
  unfold State.point
  rw [h]

/-- A write of a record off the shelf, or of one that keeps the slot, the last change and the repeat count. -/
theorem setPoint {r : PointRec} (h : r.shelf = none ∨ (r.shelf = (s.point q).shelf ∧ r.lastChange = (s.point q).lastChange ∧
    r.repeatCount = (s.point q).repeatCount)) : StillShelved p s (s.setPoint q r) := by
  by_cases hp : p = q
  · subst hp
    unfold StillShelved
    rw [point_setPoint_self]
    exact h
  · exact of_point (point_setPoint_ne s r hp)

end StillShelved

/-! ### The operations -/

section

variable (s : State) (p q : PointNo)

theorem seqEvent_stillShelved (ev : SeqEvent) : StillShelved p s (s.seqEvent q ev) := by
  rcases seqEvent_cases s q ev with ⟨-, h⟩ | ⟨tr, htr, h⟩ <;> rw [h]
  · exact .refl s
  · by_cases hp : p = q
    · subst hp
      have hshelf : (s.point p).shelf = none := by
        by_contra hne
        simp [State.transition?, hne] at htr
      exact .inl (((applyTransition_seqRecords s p tr).shelf_eq p).trans hshelf)
    · exact .of_point (applyTransition_sameBut s q tr p hp)

theorem arriveIfOffNormal_stillShelved : StillShelved p s (s.arriveIfOffNormal q) := by
  unfold State.arriveIfOffNormal
  split
  exacts [seqEvent_stillShelved s p q _, .refl s]

theorem deliver_stillShelved (cond : Condition) : StillShelved p s (s.deliver q cond) :=
  (StillShelved.setPoint (r := { s.point q with eff := cond }) (.inr ⟨rfl, rfl, rfl⟩)).trans (seqEvent_stillShelved _ p q _)

theorem actOn_stillShelved (ev : SeqEvent) (ps : List PointNo) : StillShelved p s (s.actOn ev ps).1 := by
  rw [actOn_eq_foldl]
  exact .foldl (fun s q => seqEvent_stillShelved s p q ev) ps s

theorem silenceAll_stillShelved : StillShelved p s s.silenceAll := by
  rw [silenceAll_eq_silenced]
  unfold StillShelved
  rw [point_silenced]
  exact .inr ⟨rfl, rfl, rfl⟩

theorem changeCondition_stillShelved (cond : Condition) : StillShelved p s (s.changeCondition q cond) := by
  unfold State.changeCondition
  split
  · exact .refl s
  · exact (StillShelved.setPoint (r := { s.point q with line := cond }) (.inr ⟨rfl, rfl, rfl⟩)).trans
      (deliver_stillShelved _ p q cond)

theorem placePoint_stillShelved : StillShelved p s (s.placePoint q) := by
  have hset : StillShelved p s (s.initialised q) := StillShelved.setPoint (.inr ⟨rfl, rfl, rfl⟩)
  exact hset.trans (arriveIfOffNormal_stillShelved _ p q)

theorem freeSlot_stillShelved (k : SlotNo) : StillShelved p s (s.freeSlot k q) :=
  StillShelved.setPoint (s := s.setSlot k none) (r := { s.point q with shelf := none }) (.inl rfl)

/-- A point removed from service is off the shelf. -/
theorem removePoint_stillShelved : StillShelved p s (s.removePoint q) := by
  by_cases hp : p = q
  · subst hp
    have hpoint : (s.removePoint p).point p = (((s.leaveList p).freeSlotOf p).point p).withdrawn := point_setPoint_self _ p _
    have hfreed : (((s.leaveList p).freeSlotOf p).point p).withdrawn.shelf = none := by
      change (((s.leaveList p).freeSlotOf p).point p).shelf = none
      unfold State.freeSlotOf
      split
      next k _ => exact congrArg PointRec.shelf (point_setPoint_self _ p { (s.leaveList p).point p with shelf := none })
      next hshelf => exact hshelf
    exact .inl (by rw [hpoint, hfreed])
  · refine .of_point ?_
    have hfreed : SameBut q (s.leaveList q) ((s.leaveList q).freeSlotOf q) := by
      unfold State.freeSlotOf
      split
      next k _ => exact SameBut.trans (t := (s.leaveList q).setSlot k none) (fun _ _ => rfl) (.setPoint _ _)
      next => exact .refl _
    have hremoved : (s.removePoint q).point p = ((s.leaveList q).freeSlotOf q).point p := point_setPoint_ne _ _ hp
    rw [hremoved, hfreed p hp, leaveList_sameBut s q p hp]

theorem changeClass_stillShelved (cls : ClassNo) : StillShelved p s (s.changeClass q cls) := by
  have hset : StillShelved p s (s.setPoint q { s.point q with cls := cls }) := StillShelved.setPoint (.inr ⟨rfl, rfl, rfl⟩)
  unfold State.changeClass
  dsimp only
  split_ifs <;> exact hset

theorem expireSlot_stillShelved (k : SlotNo) : StillShelved p s (s.expireSlot k) := by
  unfold State.expireSlot
  split
  next r _ => exact (freeSlot_stillShelved s p r.point k).trans (arriveIfOffNormal_stillShelved _ p r.point)
  next => exact .refl s

theorem expireIfDue_stillShelved (k : SlotNo) : StillShelved p s (s.expireIfDue k) := by
  unfold State.expireIfDue
  split
  next => split; exacts [expireSlot_stillShelved s p k, .refl s]
  next => exact .refl s

theorem beginSecond_stillShelved : StillShelved p s s.beginSecond := by
  rw [beginSecond_eq]
  exact .of_points rfl

theorem takeSecond_stillShelved : StillShelved p s s.takeSecond := by
  have hcount : StillShelved p s.beginSecond s.beginSecond.countDown := by
    rw [countDown_eq]
    exact .of_points rfl
  have hshelf : StillShelved p s.beginSecond.countDown s.beginSecond.shelfSecond :=
    .foldl (fun s k => expireIfDue_stillShelved s p k) allSlots _
  have htaken : StillShelved p s.beginSecond.shelfSecond s.takeSecond := by
    unfold State.takeSecond
    generalize s.beginSecond.shelfSecond = u
    exact .of_points rfl
  exact ((beginSecond_stillShelved s p).trans (hcount.trans hshelf)).trans htaken

theorem judgeLine_stillShelved (k : LineNo) : StillShelved p s (s.judgeLine k) := by
  unfold State.judgeLine
  split
  next q _ =>
    have hlifted : StillShelved p s ((s.setPoint q { s.point q with lockout := false }).setCause .chatter) :=
      StillShelved.setPoint (r := { s.point q with lockout := false }) (.inr ⟨rfl, rfl, rfl⟩)
    unfold State.judgePoint
    dsimp only
    split_ifs
    · exact hlifted.trans (deliver_stillShelved _ p q .normal)
    · exact hlifted
    · exact .setPoint (.inr ⟨rfl, rfl, rfl⟩)
  next => exact .refl s

theorem takeBoundary_stillShelved : StillShelved p s s.takeBoundary := by
  have hclose (u : State) : StillShelved p u u.closeWindow := .foldl (fun s k => judgeLine_stillShelved s p k) allLines u
  unfold State.takeBoundary
  split_ifs
  exacts [(beginSecond_stillShelved s p).trans (hclose _), hclose s, .refl s]

theorem expireAhead_stillShelved : StillShelved p s s.expireAhead := by
  unfold State.expireAhead
  split
  · exact .refl s
  · split
    exacts [(beginSecond_stillShelved s p).trans (expireSlot_stillShelved _ p _), .refl s]

/-- After a soft reset no point is shelved. -/
theorem softResetAll_stillShelved : StillShelved p s s.softResetAll := by
  rw [softResetAll_eq]
  exact .inl ((rebuilt_announced s).kept p).2.2.2.1

theorem sampleLine_stillShelved (k : LineNo) : StillShelved p s (s.sampleLine k) := by
  have hlocked (u : State) (q : PointNo) : StillShelved p u (u.lockedOut q) :=
    StillShelved.setPoint (r := { u.point q with lockout := true }) (.inr ⟨rfl, rfl, rfl⟩)
  unfold State.sampleLine
  split
  next q _ =>
    unfold State.debouncePoint
    dsimp only
    split_ifs
    · exact .setPoint (.inr ⟨rfl, rfl, rfl⟩)
    · exact .setPoint (.inr ⟨rfl, rfl, rfl⟩)
    · generalize (s.point q).polarity.read (s.lines.getLsbD k.val) = cond
      have hcounted : StillShelved p s (s.setPoint q ((s.point q).counted cond)) := .setPoint (.inr ⟨rfl, rfl, rfl⟩)
      rw [acceptChange_eq]
      split_ifs
      · exact hcounted
      · exact hcounted.trans (hlocked _ q)
      · exact (hcounted.trans (hlocked _ q)).trans (deliver_stillShelved _ p q _)
      · exact hcounted
      · exact hcounted.trans (deliver_stillShelved _ p q _)
  next => exact .refl s

theorem buttonAction_stillShelved (b : Button) : StillShelved p s (s.buttonAction b) := by
  cases b with
  | ack => exact actOn_stillShelved s p .ack allPoints
  | sil => exact silenceAll_stillShelved s p
  | rst => exact actOn_stillShelved s p .reset allPoints
  | tst =>
    have htst : s.buttonAction .tst = _ := beginButtonTest_eq s
    rw [htst]
    exact .of_points rfl

theorem takeButtonEvent_stillShelved (e : ButtonEvent) : StillShelved p s (s.takeButtonEvent e) := by
  cases e with
  | press b =>
    have hpress : StillShelved p s (s.takePress b) := by
      have hcounted : StillShelved p s (s.pressCounted b) := .of_points rfl
      rw [takePress_eq]
      split
      exacts [hcounted, hcounted.trans (buttonAction_stillShelved _ p b)]
    exact hpress
  | release b =>
    have hrelease : StillShelved p s (s.takeRelease b) := by
      unfold State.takeRelease
      split
      · rw [endButtonTest_eq]
        rcases testReleased_cases s with h | h <;> rw [h] <;> exact .of_points rfl
      · exact .refl s
    exact hrelease

end

theorem SampleRun.stillShelved {ks : List LineNo} {es : List ButtonEvent} (h : SampleRun ks es s t) (p : PointNo) :
    StillShelved p s t := by
  induction h with
  | done s => exact .refl s
  | line _ ih => exact (sampleLine_stillShelved _ p _).trans ih
  | event _ ih => exact (takeButtonEvent_stillShelved _ p _).trans ih
  | ordered n _ ih => exact ih

theorem takeSample_stillShelved (s : State) (lines : BitVec 32) (pins : BitVec 4) (p : PointNo) :
    StillShelved p s (s.takeSample lines pins) := (takeSample_run s lines pins).stillShelved p

/-- No act moves a shelved point but off the shelf. -/
theorem AnnAct.stillShelved (h : AnnAct c s t) (hs : (s.point p).shelf ≠ none) : StillShelved p s t := by
  cases h with
  | acted hev ps => exact actOn_stillShelved s p _ ps
  | silenced => exact silenceAll_stillShelved s p
  | conditionSet cond hin hsrc => exact changeCondition_stillShelved s p _ cond
  | placed hout hline => exact placePoint_stillShelved s p _
  | removed hin => exact removePoint_stillShelved s p _
  | @shelved _ q k m _ _ _ hin hshelf hfree hlo hhi =>
    have hp : p ≠ q := fun e => hs (e ▸ hshelf)
    have htaken : SameBut q s (s.takeSlot k q (m * 60)) :=
      SameBut.trans (t := s.setSlot k (some ⟨q, m * 60⟩)) (fun _ _ => rfl) (.setPoint _ _)
    exact .of_point ((htaken.trans (shelveNotice_sameBut _ q)) p hp)
  | unshelved hshelf => exact (freeSlot_stillShelved s p _ _).trans (arriveIfOffNormal_stillShelved _ p _)
  | classChanged q cls => exact changeClass_stillShelved s p q cls
  | defined hout hlo hhi => exact .setPoint (.inr ⟨rfl, rfl, rfl⟩)
  | optionSet g on => exact .of_points rfl
  | listPlaced hq hm => exact .of_points rfl
  | classOptionsSet cls o => exact .of_points rfl
  | softReset => exact softResetAll_stillShelved s p
  | secondTaken => exact takeSecond_stillShelved s p
  | boundaryTaken => exact takeBoundary_stillShelved s p
  | expiredAhead => exact expireAhead_stillShelved s p

theorem exec_stillShelved (h : exec c s = .next t) (hs : (s.point p).shelf ≠ none) : StillShelved p s t := by
  by_cases hreset : ∃ csLow, c = .hardReset csLow
  · obtain ⟨csLow, rfl⟩ := hreset
    obtain rfl := Host.Outcome.next.inj h
    have hpoint : (s.hardReset csLow).point p = PointRec.reset := point_reset p
    exact .inl (by rw [hpoint]; rfl)
  · by_cases hsample : ∃ lines pins, c = .sample lines pins
    · obtain ⟨lines, pins, rfl⟩ := hsample
      obtain rfl := Host.Outcome.next.inj h
      exact takeSample_stillShelved s lines pins p
    · push Not at hreset hsample
      obtain ⟨l, l', u, hact, rfl⟩ := exec_inv hreset hsample h
      cases hact with
      | idle => exact .refl s
      | ann h => exact h.stillShelved (s := { s with link := l }) hs
      | dev h => exact .of_points (by rw [h.frame])

/-- Settles O12: the laws say how a shelved point stands, and what kept its slot kept its times. -/
theorem shelvedPointKeepsItsSequence : Obligations.ShelvedPointKeepsItsSequence := by
  intro c s t p hlaws hexec hs hshelf
  obtain ⟨ht, -⟩ := annunciationLaws_iff.1 (exec_annunciation hexec hlaws).1
  obtain ⟨hlawful, -⟩ := annunciationLaws_iff.1 hlaws
  have hts : (t.point p).shelf ≠ none := by rwa [hshelf]
  obtain ⟨-, hquiet, hsilent, hunlisted⟩ := ht.shelved_record hts
  obtain ⟨-, -, -, hunlisted'⟩ := hlawful.shelved_record hs
  rcases exec_stillShelved hexec hs with h | ⟨-, hlast, hrepeat⟩
  · exact absurd h hts
  · exact ⟨hquiet, hsilent, hunlisted,
      (ht.entryTime_of_unlisted hunlisted).trans (hlawful.entryTime_of_unlisted hunlisted').symm, hlast, hrepeat⟩

end

end Sys2Proof.Machine
end

section
/-!
How a group's first-out moves: what can take it from the point it is HELD on (R70, R71).
-/

namespace Sys2Proof.Machine

section

variable {s t u : State} {p q : PointNo} {g : GroupNo} {d : AnnState} {c : Instr}

/-! ### Lapsing and holding -/

/-- The first-out state of a group. -/
def State.firstOutOf (s : State) (g : GroupNo) : FirstOut := (s.groupRec g).firstOut

/-- The first-out state stands, or is ARMED. -/
def Lapses (g : GroupNo) (s t : State) : Prop := t.firstOutOf g = s.firstOutOf g ∨ t.firstOutOf g = .armed

/-- A group that is HELD on a point stays HELD on it. -/
def Holds (g : GroupNo) (s t : State) : Prop := ∀ p, s.firstOutOf g = .held p → t.firstOutOf g = .held p

theorem firstOutOf_of_groups (h : t.groups = s.groups) : t.firstOutOf g = s.firstOutOf g := by
  unfold State.firstOutOf State.groupRec
  rw [h]

theorem Lapses.of_groups (h : t.groups = s.groups) : Lapses g s t := .inl (firstOutOf_of_groups h)

theorem Lapses.refl (s : State) : Lapses g s s := .inl rfl

theorem Holds.refl (s : State) : Holds g s s := fun _ h => h

theorem withEff_groups (s : State) (p : PointNo) (cond : Condition) : (s.withEff p cond).groups = s.groups := rfl

theorem Lapses.trans (h₁ : Lapses g s t) (h₂ : Lapses g t u) : Lapses g s u := by
  rcases h₂ with h₂ | h₂
  · exact h₁.imp h₂.trans h₂.trans
  · exact .inr h₂

theorem Holds.of_groups (h : t.groups = s.groups) : Holds g s t := fun _ hp => (firstOutOf_of_groups h).trans hp

theorem Holds.trans (h₁ : Holds g s t) (h₂ : Holds g t u) : Holds g s u := fun p hp => h₂ p (h₁ p hp)

/-- A change of a listed point's state lets the first-out lapse at most. -/
theorem changedTo_lapses (hq : (s.point p).state ≠ .quiet) : Lapses g s (s.changedTo p d) := by
  by_cases hd : d = .quiet
  · subst hd
    have hrec := groupRec_of_set (g' := g) (changedTo_return hq).2.2.2
    unfold Lapses State.firstOutOf
    rw [hrec]
    split_ifs with hg harmed
    · exact .inr rfl
    · exact .inl (by rw [hg])
    · exact .inl rfl
  · exact .of_groups (changedTo_other hq hd).2.2.2

/-- A change of state into another than QUIET takes no first-out from its point. -/
theorem changedTo_holds (hd : d ≠ .quiet) : Holds g s (s.changedTo p d) := by
  intro q hq
  by_cases hquiet : (s.point p).state = .quiet
  · have hrec := groupRec_of_set (g' := g) (changedTo_arrival hquiet hd).2.2.2
    unfold State.firstOutOf at *
    rw [hrec]
    split
    next hg =>
      subst hg
      simp [hq]
    next => exact hq
  · exact (firstOutOf_of_groups (changedTo_other hquiet hd).2.2.2).trans hq

theorem delivered_lapses (hd : (s.point p).MayDeliver .normal) : Lapses g s (s.delivered p .normal) := by
  by_cases hshelf : (s.point p).shelf = none
  · obtain ⟨-, -, hstep, -⟩ := hd.state
    have hoff : (s.point p).eff = .offNormal := by
      cases heff : (s.point p).eff with
      | normal => exact absurd heff hd.ne
      | offNormal => rfl
    have hq : ((s.withEff p .normal).point p).state ≠ .quiet := by
      rw [point_withEff]
      rcases (hstep hd.inService hshelf).1 hoff with h | h <;> simp [h]
    rw [delivered_normal hshelf]
    exact (Lapses.of_groups (withEff_groups s p .normal)).trans (changedTo_lapses hq)
  · rw [delivered_of_shelved hshelf]
    exact .of_groups (withEff_groups s p .normal)

theorem delivered_holds : Holds g s (s.delivered p .offNormal) := by
  by_cases hshelf : (s.point p).shelf = none
  · rw [delivered_offNormal hshelf]
    exact (Holds.of_groups (withEff_groups s p .offNormal)).trans (changedTo_holds (offNormalState_ne_quiet _))
  · rw [delivered_of_shelved hshelf]
    exact .of_groups (withEff_groups s p .offNormal)

theorem arrived_holds : Holds g s (s.arrived p) := by
  unfold State.arrived
  split
  exacts [changedTo_holds (offNormalState_ne_quiet _), .refl s]

theorem actedAt_lapses {dest : PointRec → Option AnnState} (hdest : ∀ r d, dest r = some d → r.ActedTo d) :
    Lapses g s (State.actedAt dest s p) := by
  unfold State.actedAt
  split
  next d hd => exact changedTo_lapses (hdest _ d hd).notQuiet
  next => exact .refl s

/-! ### The acts -/

/-- A relation that every lawful step keeps, and that chains, holds of the steps taken in turn. -/
theorem foldl_of_lawful {α : Type} {R : State → State → Prop} {f : State → α → State} (hrefl : ∀ u, R u u)
    (htrans : ∀ {u v w : State}, R u v → R v w → R u w) (hf : ∀ u a, KeepsLaws u (f u a))
    (hR : ∀ u : State, u.Lawful → ∀ a, R u (f u a)) (l : List α) (hs : s.Lawful) : R s (l.foldl f s) :=
  (List.foldlRecOn l f (motive := fun u => R s u ∧ u.Lawful) ⟨hrefl s, hs⟩ fun u hu a _ =>
    ⟨htrans hu.1 (hR u hu.2 a), (hf u a).lawful hu.2⟩).1

theorem actOn_lapses {ev : SeqEvent} (hev : ev = .ack ∨ ev = .reset) (hs : s.Lawful) (ps : List PointNo) :
    Lapses g s (s.actOn ev ps).1 := by
  rw [actOn_eq_actedOn hev hs, actedOn_eq_foldl]
  exact foldl_of_lawful (R := Lapses g) Lapses.refl Lapses.trans (actedAt_keepsLaws ev.dest_actedTo)
    (fun u _ p => actedAt_lapses (s := u) (p := p) ev.dest_actedTo) ps hs

theorem judged_lapses (hs : s.Lawful) (hin : (s.point p).inService = true) : Lapses g s (s.judged p) := by
  unfold State.judged
  dsimp only
  split_ifs with hended hline
  · have hmay := (hs.records p).mayDeliver_ended hin hended.1 hline
    have hself : (s.rewritten p { s.point p with lockout := false } 0x08#8).point p = _ := point_rewritten_self _ _ _ _
    have hdelivered : Lapses g (s.rewritten p { s.point p with lockout := false } 0x08#8)
        ((s.rewritten p { s.point p with lockout := false } 0x08#8).delivered p .normal) :=
      delivered_lapses (by rw [hself]; exact hmay)
    exact (Lapses.of_groups rfl).trans hdelivered
  · exact .of_groups rfl
  · exact .of_groups rfl

theorem judgeLine_lapses (hs : s.Lawful) (k : LineNo) : Lapses g s (s.judgeLine k) := by
  rw [judgeLine_eq_judgedOn hs]
  unfold State.judgedOn
  cases hk : s.pointOnLine k with
  | none => exact .refl s
  | some p => exact judged_lapses hs (pointOnLine_eq_some hk).1

theorem closeWindow_lapses (hs : s.Lawful) : Lapses g s s.closeWindow :=
  foldl_of_lawful (R := Lapses g) Lapses.refl Lapses.trans judgeLine_keepsLaws (fun _ hu k => judgeLine_lapses hu k) allLines hs

theorem beginSecond_groups (s : State) : s.beginSecond.groups = s.groups := by rw [beginSecond_eq]

theorem takeBoundary_lapses (hs : s.Lawful) : Lapses g s s.takeBoundary := by
  unfold State.takeBoundary
  split_ifs
  · exact (Lapses.of_groups (beginSecond_groups s)).trans (closeWindow_lapses ((beginSecond_keepsLaws s).lawful hs))
  · exact closeWindow_lapses hs
  · exact .refl s

theorem expireSlot_holds (hs : s.Lawful) (k : SlotNo) : Holds g s (s.expireSlot k) := by
  rw [hs.expireSlot_eq]
  unfold State.expired
  cases s.slot k with
  | none => exact .refl s
  | some r =>
    have hfreed : Holds g s (s.freeSlot k r.point) := .of_groups rfl
    have harrived : Holds g s (s.unshelved r.point k) := hfreed.trans (arrived_holds (p := r.point))
    have hcaused : Holds g (s.unshelved r.point k) ((s.unshelved r.point k).withCauses 0x04#8) := by
      generalize s.unshelved r.point k = u
      exact .of_groups rfl
    exact harrived.trans hcaused

theorem expireIfDue_holds (hs : s.Lawful) (k : SlotNo) : Holds g s (s.expireIfDue k) := by
  unfold State.expireIfDue
  split
  next => split; exacts [expireSlot_holds hs k, .refl s]
  next => exact .refl s

theorem takeSecond_holds (hs : s.Lawful) : Holds g s s.takeSecond := by
  have hbegin := (beginSecond_keepsLaws s).lawful hs
  have hcount : s.beginSecond.countDown.groups = s.groups := by
    rw [countDown_eq]
    exact beginSecond_groups s
  have hexpiries : Holds g s.beginSecond.countDown s.beginSecond.shelfSecond :=
    foldl_of_lawful (R := Holds g) Holds.refl Holds.trans expireIfDue_keepsLaws (fun _ hu k => expireIfDue_holds hu k)
      allSlots (countDown_lawful hbegin)
  have htaken : Holds g s.beginSecond.shelfSecond s.takeSecond := by
    unfold State.takeSecond
    generalize s.beginSecond.shelfSecond = u
    exact .of_groups rfl
  exact ((Holds.of_groups hcount).trans hexpiries).trans htaken

theorem expireAhead_holds (hs : s.Lawful) : Holds g s s.expireAhead := by
  unfold State.expireAhead
  split
  · exact .refl s
  · split
    · exact (Holds.of_groups (beginSecond_groups s)).trans (expireSlot_holds ((beginSecond_keepsLaws s).lawful hs) _)
    · exact .refl s

theorem changeCondition_firstOut (hs : s.Lawful) (hin : (s.point p).inService = true) (hsrc : (s.point p).source = .host)
    (cond : Condition) : Lapses g s (s.changeCondition p cond) ∨ Holds g s (s.changeCondition p cond) := by
  by_cases hne : (s.point p).line = cond
  · rw [changeCondition_same hne]
    exact .inl (.refl s)
  · have hmay := (hs.records p).mayDeliver_line hin hsrc hne
    have hself := point_rewritten_self s p { s.point p with line := cond } 0#8
    have hgroups : (s.rewritten p { s.point p with line := cond } 0#8).groups = s.groups := rfl
    rw [State.changeCondition, if_neg hne, ← rewritten_zero, hs.rewritten_deliver_eq (r := { s.point p with line := cond }) rfl hmay]
    cases cond with
    | normal => exact .inl ((Lapses.of_groups hgroups).trans (delivered_lapses (by rw [hself]; exact hmay)))
    | offNormal => exact .inr ((Holds.of_groups hgroups).trans delivered_holds)

/-- What a withdrawal makes of a first-out held on `p`: it stands, it lapses, or it is SPENT where `p` is withdrawn. -/
theorem withdrawnWith_firstOut (points : Vector PointRec 48) (slots : Vector (Option SlotRec) 8)
    (h : s.firstOutOf g = .held p) :
    (s.withdrawnWith q points slots).firstOutOf g = .held p ∨ (s.withdrawnWith q points slots).firstOutOf g = .armed ∨
      ((s.withdrawnWith q points slots).firstOutOf g = .spent ∧ p = q) := by
  have hrec : (s.withdrawnWith q points slots).groupRec g = _ := groupRec_of_set rfl
  unfold State.firstOutOf at *
  rw [hrec]
  by_cases hg : g = (s.point q).group
  · subst hg
    rw [if_pos rfl]
    by_cases hquiet : s.quietWith (s.point q).group (withoutEntry q s.standing) = true
    · exact .inr (.inl (by simp [h, hquiet]))
    · by_cases hp : p = q
      · exact .inr (.inr ⟨by simp [h, hquiet, hp], hp⟩)
      · exact .inl (by simp [h, hquiet, hp])
  · rw [if_neg hg]
    exact .inl h

/-- What becomes of a first-out held on `p`, the two resets and a sample apart. -/
structure State.LeftHeld (t : State) (g : GroupNo) (p : PointNo) : Prop where
  firstOut : t.firstOutOf g = .held p ∨ t.firstOutOf g = .armed ∨ t.firstOutOf g = .off ∨
    (t.firstOutOf g = .spent ∧ ((t.point p).shelf ≠ none ∨ (t.point p).inService = false))

theorem Lapses.leftHeld (h : Lapses g s t) (hp : s.firstOutOf g = .held p) : t.LeftHeld g p :=
  ⟨h.imp (fun h => h.trans hp) .inl⟩

theorem Holds.leftHeld (h : Holds g s t) (hp : s.firstOutOf g = .held p) : t.LeftHeld g p := ⟨.inl (h p hp)⟩

theorem removePoint_leftHeld (hs : s.Lawful) (hp : s.firstOutOf g = .held p) : (s.removePoint q).LeftHeld g p := by
  have hpoint : (s.removed q).point q = (s.point q).removed := by
    rw [removed_eq, point_withdrawnWith, if_pos rfl]
  rw [hs.removePoint_eq]
  refine ⟨(withdrawnWith_firstOut _ _ hp).imp id (Or.imp id fun ⟨hspent, hpq⟩ => .inr ⟨hspent, .inr ?_⟩)⟩
  rw [hpq, hpoint]
  rfl

theorem shelve_leftHeld (hs : s.Lawful) (hp : s.firstOutOf g = .held p) (k : SlotNo) (n : Nat) :
    ((s.takeSlot k q n).shelveNotice q).LeftHeld g p := by
  have hpoint : ((s.shelved q k n).point q).shelf = some k := by
    rw [shelved_eq, point_withdrawnWith, if_pos rfl]
    rfl
  rw [hs.shelve_eq]
  refine ⟨(withdrawnWith_firstOut _ _ hp).imp id (Or.imp id fun ⟨hspent, hpq⟩ => .inr ⟨hspent, .inl ?_⟩)⟩
  rw [hpq, hpoint]
  nofun

theorem optionSet_leftHeld (hp : s.firstOutOf g = .held p) (g' : GroupNo) (on : Bool) :
    (s.setGroup g' ⟨on, optionTable on (s.groupQuiet g') (s.groupRec g').firstOut⟩).LeftHeld g p := by
  have hrec : (s.setGroup g' ⟨on, optionTable on (s.groupQuiet g') (s.groupRec g').firstOut⟩).groupRec g = _ :=
    vector_get_set s.groups g' g _
  constructor
  unfold State.firstOutOf at *
  rw [hrec]
  split
  next hg =>
    subst hg
    cases on with
    | false => exact .inr (.inr (.inl rfl))
    | true => exact .inl (by rw [hp]; rfl)
  next => exact .inl hp

theorem changeClass_groups (s : State) (p : PointNo) (cls : ClassNo) : (s.changeClass p cls).groups = s.groups := by
  unfold State.changeClass
  dsimp only
  split_ifs <;> rfl

/-- What each act but SOFT RESET makes of a first-out held on `p` (R70). -/
theorem AnnAct.leftHeld (h : AnnAct c s t) (hc : c ≠ .softReset) (hs : s.Lawful) (hp : s.firstOutOf g = .held p) :
    t.LeftHeld g p := by
  cases h with
  | acted hev ps => exact (actOn_lapses hev hs ps).leftHeld hp
  | silenced =>
    rw [silenceAll_eq_silenced]
    exact (Lapses.of_groups rfl).leftHeld hp
  | conditionSet cond hin hsrc =>
    rcases changeCondition_firstOut hs hin hsrc cond with h | h
    exacts [h.leftHeld hp, h.leftHeld hp]
  | @placed _ _ q hout hline =>
    rw [placePoint_eq, (initialised_lawfulBut hs hout hline).arriveIfOffNormal_eq (initialised_mayArrive hs hout)]
    have hset : Holds g s (s.initialised q) := .of_groups rfl
    exact (hset.trans arrived_holds).leftHeld hp
  | removed hin => exact removePoint_leftHeld hs hp
  | shelved hin hshelf hfree hlo hhi => exact shelve_leftHeld hs hp _ _
  | @unshelved _ _ q k hshelf =>
    rw [hs.unshelve_eq hshelf]
    have hfreed : Holds g s (s.freeSlot k q) := .of_groups rfl
    exact (hfreed.trans (arrived_holds (p := q))).leftHeld hp
  | classChanged q cls => exact (Lapses.of_groups (changeClass_groups s q cls)).leftHeld hp
  | defined hout hlo hhi => exact (Lapses.of_groups rfl).leftHeld hp
  | optionSet g' on => exact optionSet_leftHeld hp g' on
  | listPlaced hq hm => exact (Lapses.of_groups rfl).leftHeld hp
  | classOptionsSet cls o => exact (Lapses.of_groups rfl).leftHeld hp
  | softReset => exact absurd rfl hc
  | secondTaken => exact (takeSecond_holds hs).leftHeld hp
  | boundaryTaken => exact (takeBoundary_lapses hs).leftHeld hp
  | expiredAhead => exact (expireAhead_holds hs).leftHeld hp

end

end Sys2Proof.Machine
end

section
/-!
A group's first-out through a sample, and when it is lost (R70): once the group has been quiet, every alert of its that is
listed has come in this sample.
-/

namespace Sys2Proof.Machine

section

variable {s₀ s t u : State} {p q : PointNo} {g : GroupNo} {d : AnnState} {c : Instr} {rest rest' : List PointNo}

/-! ### A group that has been quiet in a sample -/

/-- The record of a LATCHING or SELF-CLEARING member of a group. -/
def PointRec.AlertIn (r : PointRec) (g : GroupNo) : Prop := r.group = g ∧ r.seqType ≠ .status

/-- A point has its entry from this sample, which began in `s₀`, and its line is not among those to come. -/
structure State.FreshEntry (s₀ u : State) (rest : List PointNo) (q : PointNo) : Prop where
  before : (s₀.point q).eff = .normal
  after : (u.point q).eff = .offNormal
  entry : (u.point q).entryTime = some s₀.uptime
  repeats : (u.point q).repeatCount = 0
  done : q ∉ rest

/-- Since the sample began in `s₀` the group has been quiet: its listed alerts are fresh, and a new first-out is on one
whose line is done. -/
structure Requieted (s₀ : State) (g : GroupNo) (rest : List PointNo) (u : State) : Prop where
  fresh : ∀ q ∈ u.standing, (u.point q).AlertIn g → s₀.FreshEntry u rest q
  firstOut : u.firstOutOf g = .armed ∨
    ∃ q, u.firstOutOf g = .held q ∧ (u.point q).AlertIn g ∧ (u.point q).eff = .offNormal ∧ q ∉ rest

/-- A group that is ARMED is quiet, and so none of its alerts is listed (R69, R70). -/
theorem State.Linked.quiet_of_armed (h : s.Linked) (harmed : s.firstOutOf g = .armed) : s.groupQuiet g = true := by
  obtain ⟨hoff, hfits, -⟩ := h.group g
  have harmed' : (s.groupRec g).firstOut = .armed := harmed
  have hon : (s.groupRec g).option = true := by
    rw [← Bool.not_eq_false]
    exact fun ho => FirstOut.noConfusion ((hoff.1 ho).symm.trans harmed')
  exact (hfits hon).1 harmed'

theorem Requieted.of_armed (h : u.Linked) (harmed : u.firstOutOf g = .armed) : Requieted s₀ g rest u where
  fresh q hq ha := absurd (groupQuiet_iff.1 (h.quiet_of_armed harmed) q hq ha.1) ha.2
  firstOut := .inl harmed

/-- Fewer lines are to come. -/
theorem Requieted.mono (h : Requieted s₀ g rest u) (hrest : ∀ q, q ∈ rest' → q ∈ rest) : Requieted s₀ g rest' u where
  fresh q hq ha := by
    obtain ⟨hbefore, hafter, hentry, hrepeats, hdone⟩ := h.fresh q hq ha
    exact ⟨hbefore, hafter, hentry, hrepeats, fun hm => hdone (hrest q hm)⟩
  firstOut := h.firstOut.imp id fun ⟨q, hheld, ha, hoff, hdone⟩ => ⟨q, hheld, ha, hoff, fun hm => hdone (hrest q hm)⟩

/-- A write of records that leaves the entries and what the group's alerts hold. -/
theorem Requieted.of_points (h : Requieted s₀ g rest u) (hstanding : t.standing = u.standing) (hgroups : t.groups = u.groups)
    (halert : ∀ q, (t.point q).AlertIn g ↔ (u.point q).AlertIn g)
    (hrec : ∀ q, q ∉ rest → (t.point q).eff = (u.point q).eff ∧ (t.point q).entryTime = (u.point q).entryTime ∧
      (t.point q).repeatCount = (u.point q).repeatCount) : Requieted s₀ g rest t where
  fresh q hq ha := by
    obtain ⟨hbefore, hafter, hentry, hrepeats, hdone⟩ := h.fresh q (hstanding ▸ hq) ((halert q).1 ha)
    obtain ⟨heff, htime, hcount⟩ := hrec q hdone
    exact ⟨hbefore, heff.trans hafter, htime.trans hentry, hcount.trans hrepeats, hdone⟩
  firstOut := by
    rw [firstOutOf_of_groups hgroups]
    refine h.firstOut.imp id fun ⟨q, hheld, ha, hoff, hdone⟩ => ⟨q, hheld, (halert q).2 ha, ?_, hdone⟩
    exact (hrec q hdone).1.trans hoff

theorem Requieted.of_eq (h : Requieted s₀ g rest u) (hpoints : t.points = u.points) (hstanding : t.standing = u.standing)
    (hgroups : t.groups = u.groups) : Requieted s₀ g rest t := by
  have hpoint (q : PointNo) : t.point q = u.point q := by unfold State.point; rw [hpoints]
  exact h.of_points hstanding hgroups (fun q => by rw [hpoint]) fun q _ => by rw [hpoint]; exact ⟨rfl, rfl, rfl⟩

/-- A write of the record of a point whose line is to come. -/
theorem Requieted.setPoint {r : PointRec} (h : Requieted s₀ g rest u) (hp : p ∈ rest) (htie : r.tie = (u.point p).tie) :
    Requieted s₀ g rest (u.setPoint p r) := by
  have hgroup := tie_field htie (fun r => r.group) fun _ => rfl
  have htype := tie_field htie (fun r => r.seqType) fun _ => rfl
  refine h.of_points rfl rfl (fun q => ?_) fun q hq => ?_
  · rw [point_setPoint]
    split
    next hqp => unfold PointRec.AlertIn; rw [hqp, hgroup, htype]
    next => exact Iff.rfl
  · have hqp : q ≠ p := fun e => hq (e ▸ hp)
    rw [point_setPoint_ne u r hqp]
    exact ⟨rfl, rfl, rfl⟩

theorem alertIn_changedTo : ((u.changedTo p d).point q).AlertIn g ↔ (u.point q).AlertIn g := by
  have hrec := changedTo_seqRecords u p d
  unfold PointRec.AlertIn
  rw [hrec.group_eq, hrec.seqType_eq]

/-- A change of a listed point's state, if not an alert's re-alert, leaves what is fresh. -/
theorem Requieted.listedChange (h : Requieted s₀ g rest u) (hq : (u.point p).state ≠ .quiet)
    (hd : d = .alarmNew → (u.point p).AlertIn g → p ∉ u.standing) : Requieted s₀ g rest (u.changedTo p d) := by
  have hsub (q : PointNo) (hmem : q ∈ (u.changedTo p d).standing) : q ∈ u.standing ∧ (q = p → d ≠ .quiet) := by
    by_cases hquiet : d = .quiet
    · subst hquiet
      rw [(changedTo_return hq).1, mem_withoutEntry] at hmem
      exact ⟨hmem.1, fun e => absurd e hmem.2⟩
    · rw [(changedTo_other hq hquiet).1] at hmem
      exact ⟨hmem, fun _ => hquiet⟩
  constructor
  case fresh =>
    intro q hafterwards ha
    obtain ⟨hmem, hqp⟩ := hsub q hafterwards
    have halert := alertIn_changedTo.1 ha
    have hfresh := h.fresh q hmem halert
    by_cases hp : q = p
    · subst hp
      have hnew : d ≠ .alarmNew := fun e => hd e halert hmem
      obtain ⟨hbefore, hafter, hentry, hrepeats, hdone⟩ := hfresh
      refine ⟨hbefore, ?_, ?_, ?_, hdone⟩ <;> rw [point_changedTo_self]
      · exact hafter
      · simp [PointRec.entered, hqp rfl, hq, hentry]
      · simp [PointRec.entered, hq, hnew, hrepeats]
    · obtain ⟨hbefore, hafter, hentry, hrepeats, hdone⟩ := hfresh
      refine ⟨hbefore, ?_, ?_, ?_, hdone⟩ <;> rwa [point_changedTo_ne hp]
  case firstOut =>
    rcases changedTo_lapses (g := g) (d := d) hq with hf | hf
    · rw [hf]
      refine h.firstOut.imp id fun ⟨q, hheld, ha, hoff, hdone⟩ => ⟨q, hheld, alertIn_changedTo.2 ha, ?_, hdone⟩
      rw [point_changedTo]
      split
      next hp => rw [hp] at hoff; exact hoff
      next => exact hoff
    · exact .inl hf

/-- A point that goes off-normal and arrives has its entry from this sample. -/
theorem Requieted.arrival (h : Requieted s₀ g rest u) (hq : (u.point p).state = .quiet)
    (hoff : (u.point p).eff = .offNormal) (hbefore : (s₀.point p).eff = .normal) (huptime : u.uptime = s₀.uptime)
    (hp : p ∉ rest) : Requieted s₀ g rest (u.changedTo p (u.point p).seqType.offNormalState) := by
  have hd := offNormalState_ne_quiet (u.point p).seqType
  obtain ⟨hstanding, -, -, hgroups⟩ := changedTo_arrival hq hd
  have hself := point_changedTo_self u p (u.point p).seqType.offNormalState
  constructor
  case fresh =>
    intro q hmem ha
    by_cases hqp : q = p
    · subst hqp
      refine ⟨hbefore, ?_, ?_, ?_, hp⟩ <;> rw [hself]
      · exact hoff
      · simp [PointRec.entered, hd, hq, huptime]
      · simp [PointRec.entered, hq]
    · rw [hstanding, mem_endOfClass] at hmem
      obtain ⟨hbefore, hafter, hentry, hrepeats, hdone⟩ := h.fresh q (hmem.resolve_left hqp) (alertIn_changedTo.1 ha)
      refine ⟨hbefore, ?_, ?_, ?_, hdone⟩ <;> rwa [point_changedTo_ne hqp]
  case firstOut =>
    have hrec := groupRec_of_set (g' := g) hgroups
    have hsame (hf : (u.changedTo p (u.point p).seqType.offNormalState).firstOutOf g = u.firstOutOf g) :
        (u.changedTo p (u.point p).seqType.offNormalState).firstOutOf g = .armed ∨
          ∃ q, (u.changedTo p (u.point p).seqType.offNormalState).firstOutOf g = .held q ∧
            ((u.changedTo p (u.point p).seqType.offNormalState).point q).AlertIn g ∧
            ((u.changedTo p (u.point p).seqType.offNormalState).point q).eff = .offNormal ∧ q ∉ rest := by
      rw [hf]
      refine h.firstOut.imp id fun ⟨q, hheld, ha, hq', hdone⟩ => ⟨q, hheld, alertIn_changedTo.2 ha, ?_, hdone⟩
      rw [point_changedTo]
      split
      next hqp => rw [hqp] at hq'; exact hq'
      next => exact hq'
    by_cases hg : g = (u.point p).group
    · by_cases hnew : (u.point p).seqType.offNormalState = .alarmNew ∧ u.firstOutOf g = .armed
      · obtain ⟨hnew, harmed⟩ := hnew
        refine .inr ⟨p, ?_, alertIn_changedTo.2 ⟨hg.symm, (offNormalState_eq_alarmNew _).1 hnew⟩, by rw [hself]; exact hoff, hp⟩
        unfold State.firstOutOf at *
        rw [hrec, if_pos hg]
        exact if_pos ⟨hnew, hg ▸ harmed⟩
      · refine hsame ?_
        unfold State.firstOutOf at *
        rw [hrec, if_pos hg]
        rw [hg] at hnew ⊢
        exact if_neg hnew
    · refine hsame ?_
      unfold State.firstOutOf
      rw [hrec, if_neg hg]

/-! ### A line of the sample -/

/-- A delivery to a point whose line is the one in turn. -/
theorem Requieted.delivered {cond : Condition} (h : Requieted s₀ g (p :: rest) u) (hp : p ∉ rest) (hmay : (u.point p).MayDeliver cond)
    (hbefore : (s₀.point p).eff = (u.point p).eff) (huptime : u.uptime = s₀.uptime) :
    Requieted s₀ g rest (u.delivered p cond) := by
  have heff : Requieted s₀ g (p :: rest) (u.withEff p cond) :=
    h.setPoint (r := { u.point p with eff := cond }) List.mem_cons_self rfl
  have hmono : Requieted s₀ g rest (u.withEff p cond) := heff.mono fun q hq => List.mem_cons_of_mem p hq
  have hself := point_withEff u p cond
  by_cases hshelf : (u.point p).shelf = none
  · cases cond with
    | normal =>
      have hq : ((u.withEff p .normal).point p).state ≠ .quiet := by
        obtain ⟨-, -, hstep, -⟩ := hmay.state
        have hoff : (u.point p).eff = .offNormal := by
          cases he : (u.point p).eff with
          | normal => exact absurd he hmay.ne
          | offNormal => rfl
        rw [hself]
        rcases (hstep hmay.inService hshelf).1 hoff with h | h <;> simp [h]
      rw [delivered_normal hshelf]
      refine hmono.listedChange hq fun hnew => ?_
      unfold PointRec.normalState at hnew
      split_ifs at hnew
    | offNormal =>
      have htype : ((u.withEff p .offNormal).point p).seqType = (u.point p).seqType := by rw [hself]
      rw [delivered_offNormal hshelf, ← htype]
      by_cases hq : ((u.withEff p .offNormal).point p).state = .quiet
      · have hnormal : (u.point p).eff = .normal := by
          cases he : (u.point p).eff with
          | normal => rfl
          | offNormal => exact absurd he hmay.ne
        exact hmono.arrival hq (by rw [hself]) (hbefore.trans hnormal) huptime hp
      · refine hmono.listedChange hq fun _ ha hmem => ?_
        exact (heff.fresh p hmem ha).done List.mem_cons_self
  · rw [delivered_of_shelved hshelf]
    exact hmono

/-- A line's delivery, where its point is the one in turn. -/
theorem Requieted.dealtWith {lines : BitVec 32} (h : Requieted s₀ g (p :: rest) u) (hp : p ∉ rest) (hu : u.Lawful)
    (hin : (u.point p).inService = true) (hsrc : (u.point p).source ≠ .host)
    (hbefore : (s₀.point p).eff = (u.point p).eff) (huptime : u.uptime = s₀.uptime) :
    Requieted s₀ g rest (u.dealtWith lines p) := by
  rw [dealtWith_eq]
  have hset := h.setPoint (r := (u.point p).read u.chatterLimit (u.sampledFor lines p)) List.mem_cons_self read_tie
  have hself := point_rewritten_self u p ((u.point p).read u.chatterLimit (u.sampledFor lines p))
    ((u.point p).chatterBits u.chatterLimit (u.sampledFor lines p))
  generalize (u.point p).chatterBits u.chatterLimit (u.sampledFor lines p) = bits at hself ⊢
  have hrewritten : Requieted s₀ g (p :: rest) (u.rewritten p ((u.point p).read u.chatterLimit (u.sampledFor lines p)) bits) :=
    hset.of_eq rfl rfl rfl
  split
  next => exact hrewritten.mono fun q hq => List.mem_cons_of_mem p hq
  next heff =>
    have hmay := read_mayDeliver (hu.records p) hin hsrc heff
    exact hrewritten.delivered hp (by rw [hself]; exact hmay) (by rw [hself]; exact hbefore) huptime

/-- What a line's delivery makes of a first-out held on a point. -/
theorem dealtWith_firstOut {lines : BitVec 32} (hu : u.Lawful) (hin : (u.point p).inService = true)
    (hsrc : (u.point p).source ≠ .host) : Lapses g u (u.dealtWith lines p) ∨ Holds g u (u.dealtWith lines p) := by
  rw [dealtWith_eq]
  have hself := point_rewritten_self u p ((u.point p).read u.chatterLimit (u.sampledFor lines p))
    ((u.point p).chatterBits u.chatterLimit (u.sampledFor lines p))
  generalize (u.point p).chatterBits u.chatterLimit (u.sampledFor lines p) = bits at hself ⊢
  have hgroups : (u.rewritten p ((u.point p).read u.chatterLimit (u.sampledFor lines p)) bits).groups = u.groups := rfl
  split
  next => exact .inl (.of_groups hgroups)
  next heff =>
    have hmay := read_mayDeliver (hu.records p) hin hsrc heff
    rw [← hself] at hmay
    generalize u.rewritten p ((u.point p).read u.chatterLimit (u.sampledFor lines p)) bits = v at hmay hgroups
    generalize ((u.point p).sampled u.chatterLimit (u.sampledFor lines p)).eff = cond at hmay
    cases cond with
    | normal => exact .inl ((Lapses.of_groups hgroups).trans (delivered_lapses hmay))
    | offNormal => exact .inr ((Holds.of_groups hgroups).trans delivered_holds)

/-! ### The buttons -/

theorem ackState_ne_alarmNew {r : PointRec} (h : r.ackState = some d) : d ≠ .alarmNew := by
  unfold PointRec.ackState at h
  split_ifs at h <;> cases h <;> nofun

theorem resetState_ne_alarmNew {r : PointRec} (h : r.resetState = some d) : d ≠ .alarmNew := by
  unfold PointRec.resetState at h
  split_ifs at h
  cases h
  nofun

theorem SeqEvent.dest_ne_alarmNew (ev : SeqEvent) (r : PointRec) (h : ev.dest r = some d) : d ≠ .alarmNew := by
  cases ev with
  | ack => exact ackState_ne_alarmNew h
  | reset => exact resetState_ne_alarmNew h
  | offNormal | normal => cases h

theorem Requieted.actedAt (h : Requieted s₀ g rest u) (ev : SeqEvent) (p : PointNo) :
    Requieted s₀ g rest (State.actedAt ev.dest u p) := by
  unfold State.actedAt
  split
  next d hd =>
    exact h.listedChange (SeqEvent.dest_actedTo ev _ d hd).notQuiet fun e => absurd e (SeqEvent.dest_ne_alarmNew ev _ hd)
  next => exact h

theorem Requieted.actOn {ev : SeqEvent} (h : Requieted s₀ g rest u) (hev : ev = .ack ∨ ev = .reset) (hu : u.Lawful)
    (ps : List PointNo) : Requieted s₀ g rest (u.actOn ev ps).1 := by
  rw [actOn_eq_actedOn hev hu, actedOn_eq_foldl]
  exact List.foldlRecOn ps _ (motive := Requieted s₀ g rest) h fun v hv q _ => hv.actedAt ev q

/-- What the group of a sample may have come to: HELD on its point, or quiet since the sample began. -/
def HeldOrRequieted (s₀ : State) (g : GroupNo) (p : PointNo) (rest : List PointNo) (u : State) : Prop :=
  u.firstOutOf g = .held p ∨ Requieted s₀ g rest u

theorem HeldOrRequieted.lapses (hl : Lapses g u t) (ht : t.Lawful) (h : u.firstOutOf g = .held p) :
    HeldOrRequieted s₀ g p rest t := by
  rcases hl with hl | hl
  · exact .inl (hl.trans h)
  · exact .inr (.of_armed ht.toLinked hl)

theorem HeldOrRequieted.of_eq (h : HeldOrRequieted s₀ g p rest u) (hpoints : t.points = u.points)
    (hstanding : t.standing = u.standing) (hgroups : t.groups = u.groups) : HeldOrRequieted s₀ g p rest t :=
  h.imp (fun h => (firstOutOf_of_groups hgroups).trans h) fun h => h.of_eq hpoints hstanding hgroups

theorem HeldOrRequieted.buttonAction (h : HeldOrRequieted s₀ g p rest u) (hu : u.Lawful) (b : Button) :
    HeldOrRequieted s₀ g p rest (u.buttonAction b) := by
  have hacted {ev : SeqEvent} (hev : ev = .ack ∨ ev = .reset) : HeldOrRequieted s₀ g p rest (u.actOn ev allPoints).1 := by
    rcases h with h | h
    · exact .lapses (actOn_lapses hev hu allPoints) ((actOn_keepsLaws hev u allPoints).lawful hu) h
    · exact .inr (h.actOn hev hu allPoints)
  cases b with
  | ack => exact hacted (.inl rfl)
  | rst => exact hacted (.inr rfl)
  | sil =>
    have hsil : u.buttonAction .sil = u.silenced := silenceAll_eq_silenced u
    rw [hsil]
    refine h.imp (fun h => (firstOutOf_of_groups rfl).trans h) fun h => h.of_points rfl rfl (fun q => ?_) fun q _ => ?_
    · rw [point_silenced]
      rfl
    · rw [point_silenced]
      exact ⟨rfl, rfl, rfl⟩
  | tst =>
    have htst : u.buttonAction .tst = _ := beginButtonTest_eq u
    rw [htst]
    exact h.of_eq rfl rfl rfl

theorem HeldOrRequieted.takeButtonEvent (h : HeldOrRequieted s₀ g p rest u) (hu : u.Lawful) (e : ButtonEvent) :
    HeldOrRequieted s₀ g p rest (u.takeButtonEvent e) := by
  cases e with
  | press b =>
    have hcounted : HeldOrRequieted s₀ g p rest (u.pressCounted b) := h.of_eq rfl rfl rfl
    have hpress : HeldOrRequieted s₀ g p rest (u.takePress b) := by
      rw [takePress_eq]
      split
      exacts [hcounted, hcounted.buttonAction ((pressCounted_keepsLaws u b).lawful hu) b]
    exact hpress
  | release b =>
    have hrelease : HeldOrRequieted s₀ g p rest (u.takeRelease b) := by
      unfold State.takeRelease
      split
      · rw [endButtonTest_eq]
        rcases testReleased_cases u with ht | ht <;> rw [ht]
        exacts [h, h.of_eq rfl rfl rfl]
      · exact h
    exact hrelease

/-! ### The run of a sample -/

theorem sampleLine_uptime (s : State) (k : LineNo) : (s.sampleLine k).uptime = s.uptime := by
  rw [(sampleLine_unitFrame s k).frame]

theorem takeButtonEvent_uptime (s : State) (e : ButtonEvent) : (s.takeButtonEvent e).uptime = s.uptime := by
  rw [(takeButtonEvent_keeps s e).frame]

/-- A line in turn, where what is to come has its effective conditions from before the sample. -/
theorem HeldOrRequieted.sampleLine {k : LineNo} (h : HeldOrRequieted s₀ g p (q :: rest) u) (hk : u.pointOnLine k = some q)
    (hq : q ∉ rest) (hu : u.Lawful) (hbefore : (s₀.point q).eff = (u.point q).eff) (huptime : u.uptime = s₀.uptime) :
    HeldOrRequieted s₀ g p rest (u.sampleLine k) := by
  obtain ⟨hin, hsrc⟩ := pointOnLine_eq_some hk
  have hhost : (u.point q).source ≠ .host := by rw [hsrc]; nofun
  have ht := (sampleLine_keepsLaws u k).lawful hu
  rw [sampleLine_eq_dealtWith hu hk] at ht ⊢
  rcases h with h | h
  · rcases dealtWith_firstOut (g := g) (lines := u.lines) hu hin hhost with hf | hf
    exacts [.lapses hf ht h, .inl (hf p h)]
  · exact .inr (h.dealtWith hq hu hin hhost hbefore huptime)

theorem SampleRun.heldOrRequieted {ks : List LineNo} {es : List ButtonEvent} (hrun : SampleRun ks es u t) (hks : ks.Nodup)
    (hu : u.Lawful) (huptime : u.uptime = s₀.uptime)
    (hbefore : ∀ q ∈ ks.filterMap u.pointOnLine, (s₀.point q).eff = (u.point q).eff)
    (h : HeldOrRequieted s₀ g p (ks.filterMap u.pointOnLine) u) : HeldOrRequieted s₀ g p [] t := by
  induction hrun with
  | done s => exact h
  | @line k ks es s t hrun ih =>
    obtain ⟨hk, hks⟩ := List.nodup_cons.1 hks
    have hlines : (s.sampleLine k).pointOnLine = s.pointOnLine := funext (sampleLine_sameLines hu k).pointOnLine_eq
    have hrest (q : PointNo) (hq : q ∈ ks.filterMap s.pointOnLine) : s.pointOnLine k ≠ some q := fun hkq => by
      obtain ⟨j, hj, hjq⟩ := List.mem_filterMap.1 hq
      exact hk (pointOnLine_inj hjq hkq ▸ hj)
    refine ih hks ((sampleLine_keepsLaws s k).lawful hu) ((sampleLine_uptime s k).trans huptime) (fun q hq => ?_) ?_
    · rw [hlines] at hq
      have hrecord := sampleLine_unsequenced hu k q
      rw [if_neg (hrest q hq)] at hrecord
      have hmem : q ∈ (k :: ks).filterMap s.pointOnLine := by
        obtain ⟨j, hj, hjq⟩ := List.mem_filterMap.1 hq
        exact List.mem_filterMap.2 ⟨j, List.mem_cons_of_mem k hj, hjq⟩
      exact (hbefore q hmem).trans (unsequenced_field hrecord (fun r => r.eff) fun _ => rfl).symm
    · rw [hlines]
      cases hkp : s.pointOnLine k with
      | none =>
        rw [List.filterMap_cons_none hkp] at h
        rwa [sampleLine_of_none hkp]
      | some q =>
        rw [List.filterMap_cons_some hkp] at h hbefore
        exact h.sampleLine hkp (fun hq => hrest q hq hkp) hu (hbefore q List.mem_cons_self) huptime
  | @event e ks es s t hrun ih =>
    have hrecords := takeButtonEvent_seqRecords s e
    have hlines : (s.takeButtonEvent e).pointOnLine = s.pointOnLine := funext (SameLines.of_seqRecords hrecords).pointOnLine_eq
    refine ih hks ((takeButtonEvent_keepsLaws s e).lawful hu) ((takeButtonEvent_uptime s e).trans huptime) (fun q hq => ?_) ?_
    · rw [hlines] at hq
      exact (hbefore q hq).trans (hrecords.field_eq (fun r => r.eff) (fun _ => rfl) q).symm
    · rw [hlines]
      exact h.takeButtonEvent hu e
  | @ordered m ks es s t hrun ih =>
    have hindex : KeepsLaws s { s with orderIndex := m } := .of_eq rfl rfl rfl rfl rfl rfl rfl rfl rfl
    exact ih hks (hindex.lawful hu) huptime hbefore (h.of_eq rfl rfl rfl)

theorem takeSample_heldOrRequieted (hs : s.Lawful) (lines : BitVec 32) (pins : BitVec 4) (h : s.firstOutOf g = .held p) :
    HeldOrRequieted s g p [] (s.takeSample lines pins) :=
  (takeSample_run s lines pins).heldOrRequieted allLines_nodup ((read_keepsLaws s lines pins).lawful hs) rfl (fun _ _ => rfl)
    (.inl h)

/-! ### How a first-out is lost -/

theorem exec_leftHeld (hs : s.Lawful) (hexec : exec c s = .next t) (hreset : ∀ csLow, c ≠ .hardReset csLow)
    (hsoft : c ≠ .softReset) (hsample : ∀ lines pins, c ≠ .sample lines pins) (hp : s.firstOutOf g = .held p) :
    t.LeftHeld g p := by
  obtain ⟨l, l', u, hact, rfl⟩ := exec_inv hreset hsample hexec
  have hu : u.LeftHeld g p := by
    cases hact with
    | idle => exact ⟨.inl hp⟩
    | ann h => exact h.leftHeld hsoft ((link_keepsLaws s l).lawful hs) hp
    | dev h =>
      have hgroups : u.groups = s.groups := by rw [h.frame]
      exact (Lapses.of_groups hgroups).leftHeld hp
  exact ⟨hu.firstOut⟩

theorem State.Linked.optionOff (h : t.Linked) (hoff : t.firstOutOf g = .off) : (t.groupRec g).option = false :=
  (h.group g).off.2 hoff

/-- A SPENT group is not quiet (R70). -/
theorem State.Linked.loud_of_spent (h : t.Linked) (hspent : t.firstOutOf g = .spent) : t.groupQuiet g = false := by
  have hspent' : (t.groupRec g).firstOut = .spent := hspent
  obtain ⟨hoff, hfits, -⟩ := h.group g
  have hon : (t.groupRec g).option = true := by
    rw [← Bool.not_eq_false]
    exact fun ho => FirstOut.noConfusion ((hoff.1 ho).symm.trans hspent')
  rw [← Bool.not_eq_true]
  exact fun hquiet => FirstOut.noConfusion (hspent'.symm.trans ((hfits hon).2 hquiet))

/-- An alert that is off-normal within reach of the sequence is listed. -/
theorem State.Lawful.listed_of_held (h : t.Lawful) (hheld : t.firstOutOf g = .held q) (hoff : (t.point q).eff = .offNormal) :
    q ∈ t.standing := by
  obtain ⟨-, hin, hshelf⟩ := (h.group g).held q hheld
  obtain ⟨-, -, hstep, -⟩ := (h.records q).state
  refine h.mem_iff.2 fun hquiet => ?_
  rcases (hstep hin hshelf).1 hoff with hs | hs <;> rw [hquiet] at hs <;> cases hs

/-- Settles O13: an act lets the first-out lapse, spends it or turns it off, and in a sample only a group that has been quiet
is HELD anew. -/
theorem firstOutIsLostOnlyAsTheTableSays : Obligations.FirstOutIsLostOnlyAsTheTableSays := by
  intro c s t g p hlaws hexec hreset hsoft hheld hlost
  obtain ⟨hs, -⟩ := annunciationLaws_iff.1 hlaws
  obtain ⟨ht, -⟩ := annunciationLaws_iff.1 (exec_annunciation hexec hlaws).1
  by_cases hsample : ∃ lines pins, c = .sample lines pins
  · obtain ⟨lines, pins, rfl⟩ := hsample
    obtain rfl := Host.Outcome.next.inj hexec
    rcases takeSample_heldOrRequieted hs lines pins hheld with h | ⟨hfresh, harmed | ⟨q, hq, ha, hoff, -⟩⟩
    · exact absurd h hlost
    · exact .inl ⟨harmed, ht.quiet_of_armed harmed⟩
    · refine .inr (.inl ⟨lines, pins, q, rfl, hq, ht.listed_of_held hq hoff, ha.1, ha.2, fun r hr hrg hrs => ?_⟩)
      obtain ⟨hbefore, hafter, hentry, hrepeats, -⟩ := hfresh r hr ⟨hrg, hrs⟩
      exact ⟨hbefore, hafter, hentry, hrepeats⟩
  · push Not at hsample
    rcases (exec_leftHeld hs hexec hreset hsoft hsample hheld).firstOut with h | h | h | ⟨h, hp⟩
    · exact absurd h hlost
    · exact .inl ⟨h, ht.quiet_of_armed h⟩
    · exact .inr (.inr (.inr ⟨h, ht.optionOff h⟩))
    · exact .inr (.inr (.inl ⟨h, ht.loud_of_spent h, hp⟩))

end

end Sys2Proof.Machine
end
